-- ==== Sys2Proof/Word.lean ====
section
/-!
DEFINITION. The word types of LMT-CORE and the code words its operations are selected by
(spec/30_encoding.md R70, R80).
-/

namespace Sys2Proof

/-- An 8-bit value: a counter value or one mask of a frame. -/
abbrev Byte := BitVec 8

/-- A 4-bit entry of a pattern table (R10, R150). -/
abbrev Nibble := BitVec 4

/-- The 32-bit value shifted out for one frame (R77, R181). -/
abbrev WireWord := BitVec 32

/-- The four code spaces decoded in every cycle (R70). -/
inductive CodeSpace where
  /-- `RST`: the `rst` input. -/
  | rst
  /-- `CEV`: the control event word, with the second selector `counter == 255` (R72). -/
  | cev
  /-- `PH`: the phase register. -/
  | ph
  /-- `MODE`: the mode register. -/
  | mode
  deriving DecidableEq, Repr

/-- The width in bits of a code word of the space (R80). -/
def CodeSpace.width : CodeSpace → Nat
  | .rst => 1
  | .cev => 3
  | .ph => 3
  | .mode => 2

/-- A code word as one byte, right aligned, with the space it belongs to and the second selector
of R72 (`idle` is `counter == 255`; only CEV words with E and L set look at it). -/
structure CodeWord where
  space : CodeSpace
  idle : Bool
  bits : Byte
  deriving DecidableEq, Repr

end Sys2Proof
end

