-- ==== Sys2Proof/Syntax.lean ====
section
/-!
DEFINITION. The operations of LMT-CORE: one constructor per row of spec/opcode_table.json
(spec/30_encoding.md R70 to R75, R83). The only operand fields are the don't-care bits of the CEV
encodings: L of NOP and TICK, T of PRESS_START and PRESS_STOP.
-/

namespace Sys2Proof

/-- The 19 operations of the opcode table, in the table's order. -/
inductive Instr where
  /-- RST `1`: the reset operation (R270). -/
  | reset
  /-- CEV `0 L 0` (R104). -/
  | nop (l : Bool)
  /-- CEV `0 L 1` (R108). -/
  | tick (l : Bool)
  /-- CEV `1 0 0` (R107). -/
  | release
  /-- CEV `1 0 1` (R109). -/
  | releaseTick
  /-- CEV `1 1 T` with `counter == 255` (R105). -/
  | pressStart (t : Bool)
  /-- CEV `1 1 T` with `counter != 255` (R106). -/
  | pressStop (t : Bool)
  /-- PH `000` (R211). -/
  | fetch
  /-- PH `001` (R183). -/
  | latchLo
  /-- PH `010` (R184). -/
  | data
  /-- PH `011` (R185). -/
  | clkHi
  /-- PH `100` (R186). -/
  | clkLo
  /-- PH `101` (R187, R212). -/
  | latchHi
  /-- PH `110` (R216). -/
  | dwell
  /-- PH `111` (R217). -/
  | reservedPh
  /-- MODE `00` (R142). -/
  | renderIdle
  /-- MODE `01` (R152). -/
  | renderRun
  /-- MODE `10` (R143). -/
  | renderOver
  /-- MODE `11` (R151). -/
  | renderRsvd
  deriving DecidableEq, Repr

end Sys2Proof
end

