-- ==== Sys2Proof/Config.lean ====
section
/-!
DEFINITION. The elaboration-time parameters of LMT-CORE (spec/00_scope.md R10), the values the spec
leaves OPEN, and the one free value of the model. A constant marked opaque has no body: nothing can
be proved of its value, so what is proved holds whatever it is.
-/

namespace Sys2Proof

/-- The parameters a block is elaborated with (R10). They are constant state (R33, R34): every
machine state carries its own, and no step changes them. -/
structure Params where
  /-- `TICK_PERIOD`: cycles between two tick events, at least 1. -/
  tickPeriod : Nat
  /-- `DWELL_CYCLES`: cycles of each overtime dwell, at least 1. -/
  dwellCycles : Nat
  /-- `GROW_R[0..7]` (growFromRight). -/
  growR : Vector Nibble 8
  /-- `GROW_L[0..7]` (growFromLeft). -/
  growL : Vector Nibble 8
  deriving DecidableEq, Repr

/-- `ceil(log2 n)` for n at least 1 (R10). -/
def ceilLog2 (n : Nat) : Nat := if n ≤ 1 then 0 else Nat.log2 (n - 1) + 1

/-- `TW`, the width of `tick_cnt` (R10). -/
def Params.tickWidth (p : Params) : Nat := max 1 (ceilLog2 p.tickPeriod)

/-- `DW`, the width of `dwell_cnt` (R10). -/
def Params.dwellWidth (p : Params) : Nat := max 1 (ceilLog2 p.dwellCycles)

namespace Config

/-- `TICK_PERIOD - 1` of this hardware. OPEN (R10, D5): any natural number. Log entry 5. -/
opaque tickPeriodLessOne : Nat

/-- `DWELL_CYCLES - 1` of this hardware. OPEN (R10, D12): any natural number. Log entry 5. -/
opaque dwellCyclesLessOne : Nat

/-- FREE VALUE. The level `btn_s1` takes at an edge where `btn` is not settled: a change too close
to the edge, or a pulse shorter than a cycle (R276, 93_implementation_defined.md I12, I13). The
argument is the number of the edge, so every edge has a draw of its own. Log entry 3. -/
opaque btnDraw : Nat → Bool

/-- The default `GROW_R` (R10, R150; D13). Log entry 6. -/
def growRDefault : Vector Nibble 8 := #v[0x1, 0x3, 0x7, 0xF, 0x1, 0x3, 0x7, 0xF]

/-- The default `GROW_L` (R10, R150; D13). Log entry 6. -/
def growLDefault : Vector Nibble 8 := #v[0x8, 0xC, 0xE, 0xF, 0x8, 0xC, 0xE, 0xF]

/-- The parameters this hardware is elaborated with: the two OPEN durations, uninterpreted and at
least 1, and the spec's default tables. -/
def params : Params where
  tickPeriod := tickPeriodLessOne + 1
  dwellCycles := dwellCyclesLessOne + 1
  growR := growRDefault
  growL := growLDefault

/-- The nominal `TICK_PERIOD`, `round(3.75 × CLK_HZ)` (R10). Informative: no rule reads `CLK_HZ`
(93_implementation_defined.md I4). Log entry 16. -/
def nominalTickPeriod (clkHz : ℚ) : Nat := (round (15 / 4 * clkHz)).toNat

/-- The nominal `DWELL_CYCLES`, `round(0.5 × CLK_HZ)` (R10). Informative. Log entry 16. -/
def nominalDwellCycles (clkHz : ℚ) : Nat := (round (1 / 2 * clkHz)).toNat

end Config

end Sys2Proof
end

