-- ==== Sys2Proof/Machine/Stimulus.lean ====
section
/-!
DEFINITION. What the environment drives: the input vector of a cycle (spec/30_encoding.md R81) and
the stimulus notation of R81 and R82. LMT-CORE runs no software, so a program for it is a stimulus.
-/

namespace Sys2Proof.Machine

/-- What the `btn` line does at one rising edge. -/
inductive BtnLevel where
  /-- Stable at 0, released (R20). -/
  | low
  /-- Stable at 1, pressed (R20). -/
  | high
  /-- Changing too close to the edge to resolve, or a pulse shorter than a cycle: the sample is
  either level (R276; 93_implementation_defined.md I12, I13). -/
  | unsettled
  /-- Floating or no valid logic level: outside the model (R274; I16). -/
  | floating
  deriving DecidableEq, Repr

/-- The input vector `IV = {rst, btn}` sampled at one rising edge (R81). -/
structure InputVector where
  rst : Bool
  btn : BtnLevel
  deriving DecidableEq, Repr

/-- The two settled levels as bits. -/
def BtnLevel.ofBit (b : Bool) : BtnLevel := if b then .high else .low

/-- The stimulus instruction `DRIVE r b n`: n consecutive cycles with `rst = r`, `btn = b` (R81). -/
structure Drive where
  r : Bool
  b : Bool
  n : Nat
  deriving DecidableEq, Repr

/-- The encoding of `DRIVE r b n`: the run `IV = {r, b}` repeated n times (R81). -/
def Drive.run (d : Drive) : List InputVector :=
  List.replicate d.n { rst := d.r, btn := BtnLevel.ofBit d.b }

/-- The input vectors of a stimulus program, in order (R81). -/
def stimulus (prog : List Drive) : List InputVector := prog.flatMap Drive.run

/-- Pseudo-instruction `RESET` (R82). -/
def Drive.reset : List Drive := [{ r := true, b := false, n := 1 }]

/-- Pseudo-instruction `HOLD n` (R82). -/
def Drive.hold (n : Nat) : List Drive := [{ r := false, b := true, n := n }]

/-- Pseudo-instruction `FREE n` (R82). -/
def Drive.free (n : Nat) : List Drive := [{ r := false, b := false, n := n }]

/-- Pseudo-instruction `PRESS`: `HOLD 3` then `FREE 3` (R82). -/
def Drive.press : List Drive := Drive.hold 3 ++ Drive.free 3

/-- The input vector that a 2-bit code `{rst, btn}` stands for (R81). -/
def decodeInput (w : BitVec 2) : InputVector :=
  { rst := w.getLsbD 1, btn := BtnLevel.ofBit (w.getLsbD 0) }

/-- The 2-bit code of an input vector, where its `btn` is a settled level (R81). -/
def encodeInput (v : InputVector) : Option (BitVec 2) :=
  match v.btn with
  | .low => some (BitVec.ofBool v.rst ++ 0#1)
  | .high => some (BitVec.ofBool v.rst ++ 1#1)
  | .unsettled => none
  | .floating => none

end Sys2Proof.Machine
end

