-- ==== Sys2Proof/WellFormed.lean ====
section
/-!
DEFINITION. Which terms are legal: code words of their space's width (spec/30_encoding.md R80),
parameters in their legal range (spec/00_scope.md R10) and stimulus instructions of at least one
cycle (R81). Every `Instr` is well formed: its operand fields are single bits, and no CEV code is
reserved or illegal (R72).
-/

namespace Sys2Proof

/-- Every operation is well formed: an operand field of `Instr` is one bit, and both values of it
are legal (R72). Written out constructor by constructor, so that a new operation is noticed here. -/
def Instr.wf : Instr → Bool
  | .reset | .nop _ | .tick _ | .release | .releaseTick | .pressStart _ | .pressStop _ => true
  | .fetch | .latchLo | .data | .clkHi | .clkLo | .latchHi | .dwell | .reservedPh => true
  | .renderIdle | .renderRun | .renderOver | .renderRsvd => true

/-- A code word fits in its space's width (R80). -/
def CodeWord.wf (w : CodeWord) : Bool := decide (w.bits.toNat < 2 ^ w.space.width)

/-- The legal range of the two durations: naturals, at least 1 (R10). -/
def Params.wf (p : Params) : Bool := decide (1 ≤ p.tickPeriod) && decide (1 ≤ p.dwellCycles)

/-- `DRIVE r b n` lasts at least one cycle (R81). -/
def Machine.Drive.wf (d : Machine.Drive) : Bool := decide (1 ≤ d.n)

end Sys2Proof
end

