-- ==== Sys2Proof/Decode.lean ====
section
/-!
DEFINITION. The decoders of the four code spaces (spec/30_encoding.md R71 to R75), the decoder of a
code word, the encoder written from the same tables, and the host's table-word reading.
-/

namespace Sys2Proof

/-- Why a code word names no operation. -/
inductive DecodeError where
  /-- The word has a bit set above its space's width (R80). -/
  | tooWide
  /-- `RST` = 0 selects normal operation, which is no operation of its own (R73). -/
  | normalOperation
  deriving DecidableEq, Repr

/-- Phase codes (R74). -/
abbrev Ph.fetch : BitVec 3 := 0b000
abbrev Ph.latchLo : BitVec 3 := 0b001
abbrev Ph.data : BitVec 3 := 0b010
abbrev Ph.clkHi : BitVec 3 := 0b011
abbrev Ph.clkLo : BitVec 3 := 0b100
abbrev Ph.latchHi : BitVec 3 := 0b101
abbrev Ph.dwell : BitVec 3 := 0b110
abbrev Ph.reserved : BitVec 3 := 0b111

/-- Mode codes (R75). -/
abbrev Mode.idle : BitVec 2 := 0b00
abbrev Mode.run : BitVec 2 := 0b01
abbrev Mode.over : BitVec 2 := 0b10
abbrev Mode.reserved : BitVec 2 := 0b11

/-- The RST space (R73). -/
def decodeRst (w : BitVec 1) : Except DecodeError Instr :=
  if w = 1#1 then .ok .reset else .error .normalOperation

/-- The CEV space, `w = {E, L, T}`; `idle` is the second selector `counter == 255` (R72). -/
def decodeCev (idle : Bool) (w : BitVec 3) : Instr :=
  match w.getLsbD 2, w.getLsbD 1, w.getLsbD 0 with
  | false, l, false => .nop l
  | false, l, true => .tick l
  | true, false, false => .release
  | true, false, true => .releaseTick
  | true, true, t => if idle then .pressStart t else .pressStop t

/-- The PH space (R74). -/
def decodePh (w : BitVec 3) : Instr :=
  if w = Ph.fetch then .fetch
  else if w = Ph.latchLo then .latchLo
  else if w = Ph.data then .data
  else if w = Ph.clkHi then .clkHi
  else if w = Ph.clkLo then .clkLo
  else if w = Ph.latchHi then .latchHi
  else if w = Ph.dwell then .dwell
  else .reservedPh

/-- The MODE space (R75). -/
def decodeMode (w : BitVec 2) : Instr :=
  if w = Mode.idle then .renderIdle
  else if w = Mode.run then .renderRun
  else if w = Mode.over then .renderOver
  else .renderRsvd

/-- The operation a code word names. Total: a word wider than its space and the `RST` word 0 are
rejected by name; every other word names exactly one operation (R72 to R75). -/
def decode (w : CodeWord) : Except DecodeError Instr :=
  if w.wf then
    match w.space with
    | .rst => decodeRst (w.bits.setWidth 1)
    | .cev => .ok (decodeCev w.idle (w.bits.setWidth 3))
    | .ph => .ok (decodePh (w.bits.setWidth 3))
    | .mode => .ok (decodeMode (w.bits.setWidth 2))
  else .error .tooWide

/-- The CEV word `{E, L, T}` (R71). -/
def cevBits (e l t : Bool) : BitVec 3 := BitVec.ofBool e ++ BitVec.ofBool l ++ BitVec.ofBool t

/-- The code word of an operation (R72 to R75). The second selector is set for PRESS_START only;
the other CEV operations do not look at it, but for PRESS_STOP, which needs it clear. -/
def encode : Instr → CodeWord
  | .reset => { space := .rst, idle := false, bits := 0b1 }
  | .nop l => { space := .cev, idle := false, bits := (cevBits false l false).setWidth 8 }
  | .tick l => { space := .cev, idle := false, bits := (cevBits false l true).setWidth 8 }
  | .release => { space := .cev, idle := false, bits := (cevBits true false false).setWidth 8 }
  | .releaseTick => { space := .cev, idle := false, bits := (cevBits true false true).setWidth 8 }
  | .pressStart t => { space := .cev, idle := true, bits := (cevBits true true t).setWidth 8 }
  | .pressStop t => { space := .cev, idle := false, bits := (cevBits true true t).setWidth 8 }
  | .fetch => { space := .ph, idle := false, bits := 0b000 }
  | .latchLo => { space := .ph, idle := false, bits := 0b001 }
  | .data => { space := .ph, idle := false, bits := 0b010 }
  | .clkHi => { space := .ph, idle := false, bits := 0b011 }
  | .clkLo => { space := .ph, idle := false, bits := 0b100 }
  | .latchHi => { space := .ph, idle := false, bits := 0b101 }
  | .dwell => { space := .ph, idle := false, bits := 0b110 }
  | .reservedPh => { space := .ph, idle := false, bits := 0b111 }
  | .renderIdle => { space := .mode, idle := false, bits := 0b00 }
  | .renderRun => { space := .mode, idle := false, bits := 0b01 }
  | .renderOver => { space := .mode, idle := false, bits := 0b10 }
  | .renderRsvd => { space := .mode, idle := false, bits := 0b11 }

/-- The match and mask of an operation's row of opcode_table.json, over its code space's bits. -/
def tableRow : Instr → Byte × Byte
  | .reset => (0b1, 0b1)
  | .nop _ => (0b000, 0b101)
  | .tick _ => (0b001, 0b101)
  | .release => (0b100, 0b111)
  | .releaseTick => (0b101, 0b111)
  | .pressStart _ => (0b110, 0b110)
  | .pressStop _ => (0b110, 0b110)
  | .fetch => (0b000, 0b111)
  | .latchLo => (0b001, 0b111)
  | .data => (0b010, 0b111)
  | .clkHi => (0b011, 0b111)
  | .clkLo => (0b100, 0b111)
  | .latchHi => (0b101, 0b111)
  | .dwell => (0b110, 0b111)
  | .reservedPh => (0b111, 0b111)
  | .renderIdle => (0b00, 0b11)
  | .renderRun => (0b01, 0b11)
  | .renderOver => (0b10, 0b11)
  | .renderRsvd => (0b11, 0b11)

/-- The code space a bare table word is read in. The four spaces overlap (the word 1 is RESET, TICK,
LATCH_LO and RENDER_RUN), and a bare word does not say which space it is of: one of exactly 1 or 2
bits is read as RST or MODE, every other as PH, the program position (R26). Log entry 11. -/
def tableSpace (nbits : Nat) : CodeSpace :=
  if nbits = 1 then .rst else if nbits = 2 then .mode else .ph

/-- The operation the decoder reads from a bare table word (log entry 11). -/
def decodeTableWord (nbits w : Nat) : Option Instr :=
  if w < 256 then
    match decode { space := tableSpace nbits, idle := true, bits := BitVec.ofNat 8 w } with
    | .ok i => some i
    | .error _ => none
  else none

end Sys2Proof
end

