-- ==== Sys2Proof/Machine/State.lean ====
section
/-!
DEFINITION. The state of LMT-CORE: every register of spec/10_state.md (R22 to R32), the constant
state (R33), and three fields of the model's own (`frame`, `stim`, `edge`); the fault and refusal
reasons; the reset state (R36, R270). There is no memory (spec/20_memory.md R50).
-/

namespace Sys2Proof.Machine

/-- A frame: four masks, 1 = row selected, 1 = colour on (R76). -/
structure Frame where
  row : Byte
  red : Byte
  green : Byte
  blue : Byte
  deriving DecidableEq, Repr

/-- Faults. There is none: LMT-CORE raises no exception and has no error path (R240), and nothing in
it has the treatment `fault` or `stuck` (93_implementation_defined.md). -/
inductive Fault where
  deriving DecidableEq, Repr

/-- Why a step has no meaning. -/
inductive Refusal where
  /-- Raised by `exec` for an operation that has no meaning yet. Safe. No arm raises it now. -/
  | notModelled (mnemonic : String)
  /-- Raised by the control operations, which sample `btn`, when `btn` is floating or no valid level
  at the edge (R274: a floating input is not modelled; 93_implementation_defined.md I16: refuse).
  Safe: the model stops. -/
  | floatingButton
  deriving DecidableEq, Repr

/-- The state between two clock edges. -/
structure State where
  /-- `counter` (R22). -/
  counter : Byte
  /-- `running` (R23). -/
  running : Bool
  /-- `tick_cnt` (R24). -/
  tickCnt : Nat
  /-- `btn_s1` (R25). -/
  btnS1 : Bool
  /-- `btn_s2` (R25). -/
  btnS2 : Bool
  /-- `btn_prev` (R25). -/
  btnPrev : Bool
  /-- `ph` (R26). -/
  ph : BitVec 3
  /-- `mode` (R27). -/
  mode : BitVec 2
  /-- `snap_c` (R28). -/
  snapC : Byte
  /-- `snap_r` (R28). -/
  snapR : Bool
  /-- `fidx` (R29). -/
  fidx : BitVec 3
  /-- `bit_idx` (R30). -/
  bitIdx : BitVec 5
  /-- `dwell_cnt` (R31). -/
  dwellCnt : Nat
  /-- `sdata` (R32). -/
  sdata : Bool
  /-- `sclk` (R32). -/
  sclk : Bool
  /-- `latch` (R32). -/
  latch : Bool
  /-- The parameters the block was elaborated with: constant state (R10, R33, R34). -/
  params : Params
  /-- THE MODEL'S OWN. The renderer's output net: the frame the last render operation put out, that
  of the cycle that ended at the last edge with `rst` = 0 (R141). No operation reads it. Log entry 7. -/
  frame : Frame
  /-- THE MODEL'S OWN. The input vectors of the coming edges, the next one first (R81). Log entry 2. -/
  stim : List InputVector
  /-- THE MODEL'S OWN. Edges so far; the argument of the free value of an unsettled `btn` (R276).
  Log entry 3. -/
  edge : Nat
  deriving DecidableEq, Repr

/-- RESET_STATE for the parameters `p`: every register at its value of R36. -/
def State.resetWith (p : Params) : State where
  counter := 255
  running := false
  tickCnt := 0
  btnS1 := true
  btnS2 := true
  btnPrev := true
  ph := 0
  mode := 0
  snapC := 255
  snapR := false
  fidx := 0
  bitIdx := 0
  dwellCnt := 0
  sdata := false
  sclk := false
  latch := false
  params := p
  frame := { row := 0xFF, red := 0x00, green := 0x00, blue := 0xFF }
  stim := []
  edge := 0

/-- The machine right after a reset edge, with the parameters of this hardware (R36, R271). -/
def State.reset : State := State.resetWith Config.params

end Sys2Proof.Machine
end

