-- ==== Sys2Proof/Machine/Operands.lean ====
section
/-!
DEFINITION. What the operations read: the input vector of the coming edge and the sample of `btn`
(spec/30_encoding.md R81, spec/40_control.md R100), the operands of the running render function
(R78, R144) and the wire word of a frame (R77, R181).
-/

namespace Sys2Proof.Machine

/-- What the environment drives when the stimulus is used up: no reset (R274 item 3) and a `btn`
level nothing is known of (93_implementation_defined.md I1). Log entry 2. -/
def undriven : InputVector := { rst := false, btn := .unsettled }

/-- The input vector sampled k edges after the next one. -/
def State.inputAt (s : State) (k : Nat) : InputVector := (s.stim[k]?).getD undriven

/-- The input vector sampled at the next edge. -/
def State.input (s : State) : InputVector := s.inputAt 0

/-- The level `btn_s1` samples at the next edge (R100, R276); none for a floating line (R274). -/
def State.sampleBtn (s : State) : Option Bool :=
  match s.input.btn with
  | .low => some false
  | .high => some true
  | .unsettled => some (Config.btnDraw s.edge)
  | .floating => none

/-- `activeRow = c[4:2]` (R78, R144). -/
def activeRow (c : Byte) : BitVec 3 := c.extractLsb' 2 3

/-- `subPhase = c[2:0]` (R78, R144). -/
def subPhase (c : Byte) : BitVec 3 := c.extractLsb' 0 3

/-- `firstHalf`: `c < 32` (R144). -/
def firstHalf (c : Byte) : Bool := decide (c < 32)

/-- A pattern-table lookup; the index is 3 bits, so it is in range (R50). -/
def tableEntry (t : Vector Nibble 8) (i : BitVec 3) : Nibble := t.get i.toFin

/-- The wire word of a frame, `W = {~blue, ~green, ~red, row}` (R77, R181). -/
def Frame.wire (f : Frame) : WireWord := ~~~f.blue ++ ~~~f.green ++ ~~~f.red ++ f.row

end Sys2Proof.Machine
end

