-- ==== Sys2Proof/Machine/Flags.lean ====
section
/-!
DEFINITION. The block's predicates and event signals, all combinational on the registers before the
edge (spec/10_state.md R38, spec/40_control.md R101, R103, spec/30_encoding.md R71), and the update
of the one flag, `running`, by a tick (R108).
-/

namespace Sys2Proof.Machine

/-- `idle ≡ (counter == 255)` (R38). -/
def State.idle (s : State) : Bool := decide (s.counter = 255)

/-- `overtime ≡ (64 <= counter <= 254)` (R38). -/
def State.overtime (s : State) : Bool := decide (64 ≤ s.counter) && decide (s.counter ≤ 254)

/-- `active ≡ (counter <= 63)` (R38). -/
def State.active (s : State) : Bool := decide (s.counter ≤ 63)

/-- E of CEV: a change of the sampled level (R71, R101). -/
def State.edgeEvent (s : State) : Bool := s.btnS2 ^^ s.btnPrev

/-- `press = edge & level` (R101). -/
def State.press (s : State) : Bool := s.edgeEvent && s.btnS2

/-- `release = edge & ~level` (R101). -/
def State.releaseEvent (s : State) : Bool := s.edgeEvent && !s.btnS2

/-- T of CEV: `tick_cnt == TICK_PERIOD - 1` (R71, R103). -/
def State.tickEvent (s : State) : Bool := decide (s.tickCnt = s.params.tickPeriod - 1)

/-- `CEV[2:0] = {E, L, T}` (R71). -/
def State.cev (s : State) : BitVec 3 := cevBits s.edgeEvent s.btnS2 s.tickEvent

/-- `running` after a tick that moves the counter to `n`: cleared when n exceeds 63 (R108). -/
def runningAfterTick (n : Byte) (running : Bool) : Bool := if n > 63 then false else running

end Sys2Proof.Machine
end

