-- ==== Sys2Proof/Machine/Ops.lean ====
section
/-!
DEFINITION. The operations the meanings share: the tick timer (spec/40_control.md R103), the
synchronizer and the write of DisplayState at one edge (R100, spec/20_memory.md R53), the reset
(spec/70_reset_and_hazards.md R270), the join of the units and the clock edge of the whole block
(spec/43_sequencer.md R226).

THERE IS NO EXCEPTION TO TAKE AND NONE TO RETURN FROM: the block has no exception, cause, vector or
saved register (spec/60_exceptions.md R240, R244, R245). Event entry is the selection of one control
operation (`controlOp`) and its application at the edge (`clockEdge`).
-/

namespace Sys2Proof.Machine

/-- What every meaning answers. -/
abbrev Result := Host.Outcome State Fault Refusal

/-- Go on with a next state; a fault or a refusal stays as it is. -/
def andThen (r : Result) (k : State → Result) : Result :=
  match r with
  | .next s => k s
  | .fault e => .fault e
  | .refused e => .refused e

/-- `tick_cnt` after an edge that does not clear it: wrap at the compare match, else count (R103). -/
def State.timerNext (s : State) : Nat :=
  if s.tickCnt ≥ s.params.tickPeriod - 1 then 0 else s.tickCnt + 1

/-- DisplayState after a tick (R108): frozen unless running, else the 8-bit increment. -/
def State.tickedCounter (s : State) : Byte := if s.running then s.counter + 1 else s.counter

/-- The flag after a tick (R108). -/
def State.tickedRunning (s : State) : Bool :=
  if s.running then runningAfterTick (s.counter + 1) s.running else s.running

/-- The control unit's writes at one edge: DisplayState (both fields, R53), the timer, and the
synchronizer, which samples `btn` (R100). A floating `btn` is refused (R274). -/
def controlEdge (s : State) (counter : Byte) (running : Bool) (tickCnt : Nat) : Result :=
  match s.sampleBtn with
  | none => .refused .floatingButton
  | some b =>
    .next { s with
      counter := counter
      running := running
      tickCnt := tickCnt
      btnS1 := b
      btnS2 := s.btnS1
      btnPrev := s.btnS2 }

/-- Every register at its reset value (R36, R270). Not registers, and so kept: the parameters (R33),
the renderer's net (log entry 7) and what the environment drives next. -/
def State.resetRegisters (s : State) : State :=
  { State.resetWith s.params with frame := s.frame, stim := s.stim, edge := s.edge }

/-- The control operation selected by CEV and DisplayState (R72, R102). -/
def State.controlOp (s : State) : Instr := decodeCev s.idle s.cev

/-- The phase operation selected by `ph` (R74). -/
def State.phaseOp (s : State) : Instr := decodePh s.ph

/-- The render function selected by `mode` (R75). -/
def State.renderOp (s : State) : Instr := decodeMode s.mode

/-- The state after an edge from what the units write, each computed from the state before it: the
control unit's six registers from `c`, the sequencer's ten from `q`, the renderer's net from `r`
(R226). Nothing writes the parameters (R33). -/
def joinUnits (s c q r : State) : State where
  counter := c.counter
  running := c.running
  tickCnt := c.tickCnt
  btnS1 := c.btnS1
  btnS2 := c.btnS2
  btnPrev := c.btnPrev
  ph := q.ph
  mode := q.mode
  snapC := q.snapC
  snapR := q.snapR
  fidx := q.fidx
  bitIdx := q.bitIdx
  dwellCnt := q.dwellCnt
  sdata := q.sdata
  sclk := q.sclk
  latch := q.latch
  params := s.params
  frame := r.frame
  stim := s.stim
  edge := s.edge

/-- The environment moves on to the input vector of the next edge. -/
def State.advance (s : State) : State := { s with stim := s.stim.tail, edge := s.edge + 1 }

/-- One rising edge of `clk` (R226), with the meanings of the operations given by `ex`. `rst` = 1
overrides everything (R70, R73, R243). Otherwise one control operation, one phase operation and the
selected render function are performed in parallel, all from the state before the edge. -/
def clockEdge (ex : Instr → State → Result) (s : State) : Result :=
  if s.input.rst then
    andThen (ex .reset s) fun t => .next t.advance
  else
    andThen (ex s.controlOp s) fun c =>
    andThen (ex s.phaseOp s) fun q =>
    andThen (ex s.renderOp s) fun r =>
    .next (joinUnits s c q r).advance

/-- The parameters a table word is tried with: those of program P1 of 95_test_vectors.md. Operation
selection reads TICK_PERIOD (R71), which is uninterpreted in `State.reset`. Log entry 12. -/
def elaborateForTest (p : Params) : Params := { p with tickPeriod := 5, dwellCycles := 3 }

/-- The input vector of the next edge replaced by `v`. -/
def State.drive (s : State) (v : InputVector) : State := { s with stim := v :: s.stim.tail }

/-- The state whose next edge performs the operation of a bare table word, read in the space
`tableSpace` names: RST in the input, PH in `ph`, MODE in `mode` with the DATA phase that uses the
render function (R218). `btn` stays at its sampled level. Log entries 11 and 12. -/
def State.placeTableWord (s : State) (nbits w : Nat) : State :=
  let t := { s with params := elaborateForTest s.params }
  let level := BtnLevel.ofBit s.btnS1
  match tableSpace nbits with
  | .rst => t.drive { rst := (BitVec.ofNat 1 w).getLsbD 0, btn := level }
  | .cev => t.drive { rst := false, btn := level }
  | .ph => { t.drive { rst := false, btn := level } with ph := BitVec.ofNat 3 w }
  | .mode =>
    { t.drive { rst := false, btn := level } with ph := Ph.data, mode := BitVec.ofNat 2 w }

end Sys2Proof.Machine
end

