-- ==== Sys2Proof/Machine/Control.lean ====
section
/-!
DEFINITION. The control operations (spec/40_control.md): the control unit's writes at one edge, once
the operation has been selected from CEV (R102). The sequencer's registers are not touched; the
step joins the units. Each samples `btn` (R100) and runs the tick timer (R103).
-/

namespace Sys2Proof.Machine

/-- NOP (R104); L is ignored. -/
def execNop (_l : Bool) (s : State) : Result :=
  controlEdge s s.counter s.running s.timerNext

/-- TICK (R108); L is ignored. -/
def execTick (_l : Bool) (s : State) : Result :=
  controlEdge s s.tickedCounter s.tickedRunning s.timerNext

/-- RELEASE (R107): the handler fires and takes no action. -/
def execRelease (s : State) : Result :=
  controlEdge s s.counter s.running s.timerNext

/-- RELEASE_TICK (R109): exactly as TICK. -/
def execReleaseTick (s : State) : Result :=
  controlEdge s s.tickedCounter s.tickedRunning s.timerNext

/-- PRESS_START (R105); a tick in the same cycle (T) is dropped (R110), and the timer is cleared. -/
def execPressStart (_t : Bool) (s : State) : Result :=
  controlEdge s 0 true 0

/-- PRESS_STOP (R106); a tick in the same cycle (T) is dropped (R110); the timer is not cleared. -/
def execPressStop (_t : Bool) (s : State) : Result :=
  controlEdge s 255 false s.timerNext

end Sys2Proof.Machine
end

