-- ==== Sys2Proof/Machine/Renderer.lean ====
section
/-!
DEFINITION. The renderer (spec/41_renderer.md): mode decode, the four render functions and their
dispatch. A render function writes no register (R141 to R151); as an operation it puts its frame on
the renderer's output net, the model's own field `frame` (log entry 7).
-/

namespace Sys2Proof.Machine

/-- `modeOf(c)` (R140; 90_conflicts.md C1: 255 is Idle alone). -/
def modeOf (c : Byte) : BitVec 2 :=
  if c = 255 then Mode.idle else if 64 ≤ c then Mode.over else Mode.run

/-- RENDER_IDLE's frame: solid blue, all rows (R142). -/
def frameIdle : Frame := { row := 0xFF, red := 0x00, green := 0x00, blue := 0xFF }

/-- RENDER_OVER's frame: solid red in flash phase 0, blank in every other (R143). -/
def frameOver (j : BitVec 3) : Frame :=
  if j = 0 then { row := 0xFF, red := 0xFF, green := 0x00, blue := 0x00 }
  else { row := 0x00, red := 0x00, green := 0x00, blue := 0x00 }

/-- The running row mask, one-hot in the scanned row index (R145). -/
def runRow (c : Byte) (j : BitVec 3) : Byte :=
  if firstHalf c then (1 : Byte) <<< (7 - j.toNat) else (1 : Byte) <<< j.toNat

/-- The running red mask (R146 in the first half, R147 in the second). -/
def runRed (p : Params) (c : Byte) (j : BitVec 3) : Byte :=
  if firstHalf c then
    if j = activeRow c then (tableEntry p.growR (subPhase c)).setWidth 8 <<< 4
    else if j < activeRow c then 0xF0
    else 0x00
  else
    if j = activeRow c then 0xF0 ||| (tableEntry p.growL (subPhase c)).setWidth 8
    else if j < activeRow c then 0xFF
    else 0xF0

/-- RENDER_RUN's frame (R152): green is the complement of red (R148), blue is 0 (R149). -/
def frameRun (p : Params) (c : Byte) (j : BitVec 3) : Frame :=
  { row := runRow c j, red := runRed p c j, green := ~~~runRed p c j, blue := 0x00 }

/-- RENDER_RSVD's frame: blank (R151). -/
def frameRsvd : Frame := { row := 0x00, red := 0x00, green := 0x00, blue := 0x00 }

/-- `frameOf(mode, c, j)`, the renderer (R141). -/
def frameOf (p : Params) (mode : BitVec 2) (c : Byte) (j : BitVec 3) : Frame :=
  if mode = Mode.idle then frameIdle
  else if mode = Mode.run then frameRun p c j
  else if mode = Mode.over then frameOver j
  else frameRsvd

/-- The frame being transmitted, `frameOf(mode, snap_c, fidx)` (R218). -/
def State.currentFrame (s : State) : Frame := frameOf s.params s.mode s.snapC s.fidx

/-- RENDER_IDLE (R142). -/
def execRenderIdle (s : State) : Result := .next { s with frame := frameIdle }

/-- RENDER_RUN (R152). -/
def execRenderRun (s : State) : Result := .next { s with frame := frameRun s.params s.snapC s.fidx }

/-- RENDER_OVER (R143). -/
def execRenderOver (s : State) : Result := .next { s with frame := frameOver s.fidx }

/-- RENDER_RSVD (R151). -/
def execRenderRsvd (s : State) : Result := .next { s with frame := frameRsvd }

end Sys2Proof.Machine
end

