-- ==== Sys2Proof/Machine/Sequencer.lean ====
section
/-!
DEFINITION. The phases of the main loop that are no line actions (spec/43_sequencer.md R211, R216,
R217).
-/

namespace Sys2Proof.Machine

/-- FETCH (R211): the snapshot of DisplayState as held before the edge, and the pass's mode. -/
def execFetch (s : State) : Result :=
  .next { s with
    snapC := s.counter
    snapR := s.running
    mode := modeOf s.counter
    fidx := 0
    ph := Ph.latchLo }

/-- DWELL (R216). -/
def execDwell (s : State) : Result :=
  if s.dwellCnt ≥ s.params.dwellCycles - 1 then
    if s.fidx = 0 then .next { s with fidx := 1, ph := Ph.latchLo }
    else .next { s with ph := Ph.fetch }
  else .next { s with dwellCnt := s.dwellCnt + 1 }

/-- RESERVED_PH (R217). -/
def execReservedPh (s : State) : Result := .next { s with ph := Ph.fetch }

end Sys2Proof.Machine
end

