-- ==== Sys2Proof/Machine/Serializer.lean ====
section
/-!
DEFINITION. The line-action phases (spec/42_serializer.md R183 to R187), with the successor choice
at LATCH_HI (spec/43_sequencer.md R212).
-/

namespace Sys2Proof.Machine

/-- LATCH_LO (R183). -/
def execLatchLo (s : State) : Result := .next { s with latch := false, bitIdx := 0, ph := Ph.data }

/-- DATA (R184): the bit `W[bit_idx]` of the current frame's wire word. -/
def execData (s : State) : Result :=
  .next { s with sdata := s.currentFrame.wire.getLsbD s.bitIdx.toNat, ph := Ph.clkHi }

/-- CLK_HI (R185). -/
def execClkHi (s : State) : Result := .next { s with sclk := true, ph := Ph.clkLo }

/-- CLK_LO (R186). -/
def execClkLo (s : State) : Result :=
  if s.bitIdx = 31 then .next { s with sclk := false, ph := Ph.latchHi }
  else .next { s with sclk := false, bitIdx := s.bitIdx + 1, ph := Ph.data }

/-- LATCH_HI (R187) with its successor (R212): the next row's frame, the dwell, or FETCH. -/
def execLatchHi (s : State) : Result :=
  if s.mode = Mode.run then
    if s.fidx = 7 then .next { s with latch := true, ph := Ph.fetch }
    else .next { s with latch := true, fidx := s.fidx + 1, ph := Ph.latchLo }
  else if s.mode = Mode.over then .next { s with latch := true, dwellCnt := 0, ph := Ph.dwell }
  else .next { s with latch := true, ph := Ph.fetch }

end Sys2Proof.Machine
end

