-- ==== Sys2Proof/Machine/System.lean ====
section
/-!
DEFINITION. The only system operation (spec/60_exceptions.md R252): reset.
-/

namespace Sys2Proof.Machine

/-- RESET (R270): every register takes its reset value, and `btn` is ignored. -/
def execReset (s : State) : Result := .next s.resetRegisters

end Sys2Proof.Machine
end

