-- ==== Sys2Proof/Machine/Dispatch.lean ====
section
/-!
DEFINITION. The one dispatch from an operation to its meaning.
-/

namespace Sys2Proof.Machine

def exec (i : Instr) (s : State) : Host.Outcome State Fault Refusal :=
  match i with
  | .reset => Sys2Proof.Machine.execReset s
  -- control operations, CEV space
  | .nop l => Sys2Proof.Machine.execNop l s
  | .tick l => Sys2Proof.Machine.execTick l s
  | .release => Sys2Proof.Machine.execRelease s
  | .releaseTick => Sys2Proof.Machine.execReleaseTick s
  | .pressStart t => Sys2Proof.Machine.execPressStart t s
  | .pressStop t => Sys2Proof.Machine.execPressStop t s
  -- phase operations, PH space
  | .fetch => Sys2Proof.Machine.execFetch s
  | .latchLo => Sys2Proof.Machine.execLatchLo s
  | .data => Sys2Proof.Machine.execData s
  | .clkHi => Sys2Proof.Machine.execClkHi s
  | .clkLo => Sys2Proof.Machine.execClkLo s
  | .latchHi => Sys2Proof.Machine.execLatchHi s
  | .dwell => Sys2Proof.Machine.execDwell s
  | .reservedPh => Sys2Proof.Machine.execReservedPh s
  -- render functions, MODE space
  | .renderIdle => Sys2Proof.Machine.execRenderIdle s
  | .renderRun => Sys2Proof.Machine.execRenderRun s
  | .renderOver => Sys2Proof.Machine.execRenderOver s
  | .renderRsvd => Sys2Proof.Machine.execRenderRsvd s

end Sys2Proof.Machine
end

