-- ==== Sys2Proof/Machine/Step.lean ====
section
/-!
DEFINITION. One step: one rising edge of `clk` (spec/43_sequencer.md R226), and the host's placing
of a table word.
-/

namespace Sys2Proof.Machine

/-- One clock edge of the block (R226). -/
def step (s : State) : Host.Outcome State Fault Refusal := clockEdge exec s

/-- `s` with a bare table word placed where the next edge performs it (log entries 11 and 12). -/
def State.withFetchWord (s : State) (nbits w : Nat) : State := s.placeTableWord nbits w

end Sys2Proof.Machine
end

