-- ==== Sys2Proof/Machine/Chain.lean ====
section
/-!
DEFINITION. The external shift-register chain as an observer of the three output lines
(spec/42_serializer.md R189, spec/95_test_vectors.md section 4, D22). It is no part of LMT-CORE, so
it is no part of State; it reads the lines and nothing reads it.
-/

namespace Sys2Proof.Machine

/-- The observer's state: the 32-bit shift stage, and the committed outputs (none before the first
commit, whose value is not modelled: 93_implementation_defined.md I14). -/
structure Chain where
  q : WireWord
  out : Option WireWord
  deriving DecidableEq, Repr

/-- What the chain does between two consecutive states: it shifts `sdata` in at bit 0 when `sclk`
rises and commits when `latch` rises (R189). -/
def chainEdge (before after : State) (c : Chain) : Chain where
  q := if after.sclk && !before.sclk then (c.q <<< 1) ||| (BitVec.ofBool after.sdata).setWidth 32
       else c.q
  out := if after.latch && !before.latch then some c.q else c.out

/-- n edges of the block with the chain watching. -/
def runWithChain : Nat → State → Chain → Host.Outcome (State × Chain) Fault Refusal
  | 0, s, c => .next (s, c)
  | n + 1, s, c =>
    match step s with
    | .next t => runWithChain n t (chainEdge s t c)
    | .fault e => .fault e
    | .refused e => .refused e

/-- `bitrev32` (95_test_vectors.md section 4): bit i of the result is bit 31 - i. -/
def bitrev32 (w : WireWord) : WireWord := w.reverse

end Sys2Proof.Machine
end

