-- ==== Sys2Proof/Safety.lean ====
section
/-!
DEFINITION. The terms claims are stated in: quiet inputs, the sampled button levels, the invariants
of the reachable states (spec/40_control.md R115, spec/10_state.md R37), the spec's own whole-unit
steps (R113, R224), and how many cycles are left to the next FETCH (R221).
-/

namespace Sys2Proof.Machine

/-- n edges of the block (R227). -/
abbrev run (n : Nat) (s : State) : Result := Host.Core.run Sys2Proof.core n s

/-- None of the next n edges is a reset edge, and `btn` is a valid level at each of them (R274). -/
abbrev State.Quiet (s : State) (n : Nat) : Prop :=
  ∀ k < n, (s.inputAt k).rst = false ∧ (s.inputAt k).btn ≠ .floating

/-- The button levels in the order the edge detector compares them: level 0 is `btn_prev`, 1 is
`btn_s2`, 2 is `btn_s1`, and k + 3 is what `btn_s1` samples k edges after the next one (R100). -/
def State.level (s : State) : Nat → Bool
  | 0 => s.btnPrev
  | 1 => s.btnS2
  | 2 => s.btnS1
  | k + 3 =>
    match (s.inputAt k).btn with
    | .low => false
    | .high => true
    | .unsettled => Config.btnDraw (s.edge + k)
    | .floating => false

/-- No press is detected in any of the next n cycles: no compared level rises (R101). -/
abbrev State.NoPress (s : State) (n : Nat) : Prop :=
  ∀ k < n, ¬ (s.level (k + 1) = true ∧ s.level k = false)

/-- The set S of R115. -/
abbrev DisplayReachable (counter : Byte) (running : Bool) : Prop :=
  (counter = 255 ∧ running = false) ∨ (counter ≤ 63 ∧ running = true) ∨
  (counter = 64 ∧ running = false)

/-- DisplayState is in the set S (R115). -/
abbrev State.DisplayInv (s : State) : Prop := DisplayReachable s.counter s.running

/-- The two cycle counters are below their periods (R24, R31, R37). -/
abbrev State.CountersInv (s : State) : Prop :=
  s.params.wf = true ∧ s.tickCnt < s.params.tickPeriod ∧ s.dwellCnt < s.params.dwellCycles

/-- The two cycle counters fit in their registers (R10, R24, R31). -/
abbrev State.WidthsInv (s : State) : Prop :=
  s.tickCnt < 2 ^ s.params.tickWidth ∧ s.dwellCnt < 2 ^ s.params.dwellWidth

/-- The sequencer's registers hold a position of a pass: no reserved code, the mode is that of the
snapshot, the snapshot was a reachable DisplayState, the frame index is one of the mode's frames, and
only an overtime pass dwells (R37, R115, R140, R210). -/
abbrev State.SequencerInv (s : State) : Prop :=
  s.ph ≠ Ph.reserved ∧ s.mode ≠ Mode.reserved ∧ s.mode = modeOf s.snapC ∧
  DisplayReachable s.snapC s.snapR ∧
  (s.mode = Mode.idle → s.fidx = 0) ∧ (s.mode = Mode.over → s.fidx = 0 ∨ s.fidx = 1) ∧
  (s.ph = Ph.dwell → s.mode = Mode.over)

/-- Where in a frame the lines can be high: `sclk` in the CLK_LO cycle only, `latch` only outside
the shifting of a frame, and always during a dwell (R183, R187, R190). -/
abbrev State.LinesInv (s : State) : Prop :=
  (s.sclk = true ↔ s.ph = Ph.clkLo) ∧
  (s.latch = true → s.ph = Ph.fetch ∨ s.ph = Ph.latchLo ∨ s.ph = Ph.dwell) ∧
  (s.ph = Ph.dwell → s.latch = true)

/-- The control unit's whole step as the spec writes it (R113): the new `counter`, `running` and
`tick_cnt`, in that order. The synchronizer's part (R100) stands beside it where it is used. -/
def wholeControlStep (s : State) : Byte × Bool × Nat :=
  let press := s.btnS2 && !s.btnPrev
  let t := decide (s.tickCnt = s.params.tickPeriod - 1)
  let counted := if s.tickCnt ≥ s.params.tickPeriod - 1 then 0 else s.tickCnt + 1
  if press = true ∧ s.counter = 255 then (0, true, 0)
  else if press = true then (255, false, counted)
  else if t = true ∧ s.running = true then (s.counter + 1, decide (s.counter + 1 ≤ 63), counted)
  else (s.counter, s.running, counted)

/-- The sequencer's whole step as the spec writes it (R224), by phase code. -/
def wholeSequencerStep (s : State) : State :=
  match s.ph.toNat with
  | 0 => { s with snapC := s.counter, snapR := s.running, mode := modeOf s.counter, fidx := 0, ph := 1 }
  | 1 => { s with latch := false, bitIdx := 0, ph := 2 }
  | 2 => { s with
      sdata := (frameOf s.params s.mode s.snapC s.fidx).wire.getLsbD s.bitIdx.toNat, ph := 3 }
  | 3 => { s with sclk := true, ph := 4 }
  | 4 =>
    if s.bitIdx = 31 then { s with sclk := false, ph := 5 }
    else { s with sclk := false, bitIdx := s.bitIdx + 1, ph := 2 }
  | 5 =>
    if s.mode = 1 ∧ s.fidx ≠ 7 then { s with latch := true, fidx := s.fidx + 1, ph := 1 }
    else if s.mode = 2 then { s with latch := true, dwellCnt := 0, ph := 6 }
    else { s with latch := true, ph := 0 }
  | 6 =>
    if s.dwellCnt ≥ s.params.dwellCycles - 1 then
      if s.fidx = 0 then { s with fidx := 1, ph := 1 } else { s with ph := 0 }
    else { s with dwellCnt := s.dwellCnt + 1 }
  | _ => { s with ph := 0 }

/-- Two states whose sequencers agree: the sequencer's ten registers and the parameters are the same.
DisplayState, the timer, the synchronizer and the inputs may differ. -/
abbrev SameSequencer (s t : State) : Prop :=
  s.ph = t.ph ∧ s.mode = t.mode ∧ s.snapC = t.snapC ∧ s.snapR = t.snapR ∧ s.fidx = t.fidx ∧
  s.bitIdx = t.bitIdx ∧ s.dwellCnt = t.dwellCnt ∧ s.sdata = t.sdata ∧ s.sclk = t.sclk ∧
  s.latch = t.latch ∧ s.params = t.params

/-- The longest time from a DisplayState change to the edge of the FETCH that sees it, by the mode of
the pass in progress (R278). -/
def passLength (p : Params) (mode : BitVec 2) : Nat :=
  if mode = Mode.run then 785 else if mode = Mode.over then 197 + 2 * p.dwellCycles else 99

end Sys2Proof.Machine
end

