-- ==== Sys2Proof/Certificates/Slice0/Obligations.lean ====
section
/-!
DEFINITION. The statements for the provers. Each docstring names the rule of spec/ it formalises.
A statement about an operation gives the whole next state of `exec`, so it is its result, its
completion and its frame in one: every field it does not name is unchanged. `exec` of a control
operation answers the control unit's writes alone, `exec` of a phase operation the sequencer's; the
step joins them (StepRunsTheSelectedOperations). The hypothesis `s.sampleBtn = some b` says that
`btn` is a valid level at the edge (R274); b is the level it is sampled at.
-/

open Sys2Proof Sys2Proof.Machine

/-! ### Encodings -/

/-- R72: every CEV code names exactly one control operation, by the rule's match and mask pairs and
its second selector. -/
def Obligations.CevCodesNameControlOperations : Prop :=
  ∀ (idle : Bool) (w : BitVec 3),
    (w &&& 0b101 = 0b000 → decodeCev idle w = .nop (w.getLsbD 1)) ∧
    (w &&& 0b101 = 0b001 → decodeCev idle w = .tick (w.getLsbD 1)) ∧
    (w &&& 0b111 = 0b100 → decodeCev idle w = .release) ∧
    (w &&& 0b111 = 0b101 → decodeCev idle w = .releaseTick) ∧
    (w &&& 0b110 = 0b110 → idle = true → decodeCev idle w = .pressStart (w.getLsbD 0)) ∧
    (w &&& 0b110 = 0b110 → idle = false → decodeCev idle w = .pressStop (w.getLsbD 0))

/-- R73, R74, R75: the words of the other three code spaces name the operations of the tables, and
the RST word 0 names none. -/
def Obligations.RstPhModeWordsDecode : Prop :=
  decodeRst 0b1 = .ok .reset ∧ decodeRst 0b0 = .error .normalOperation ∧
  decodePh 0b000 = .fetch ∧ decodePh 0b001 = .latchLo ∧ decodePh 0b010 = .data ∧
  decodePh 0b011 = .clkHi ∧ decodePh 0b100 = .clkLo ∧ decodePh 0b101 = .latchHi ∧
  decodePh 0b110 = .dwell ∧ decodePh 0b111 = .reservedPh ∧
  decodeMode 0b00 = .renderIdle ∧ decodeMode 0b01 = .renderRun ∧
  decodeMode 0b10 = .renderOver ∧ decodeMode 0b11 = .renderRsvd

/-- R70 to R75: decoding the code word of an operation gives it back, with its don't-care bit. -/
def Obligations.EncodeThenDecode : Prop :=
  ∀ i : Instr, i.wf = true → decode (encode i) = .ok i

/-- R70 to R75, R80: a decoded word is the encoding of what it decodes to: the same space, the same
bits, and for a press the same second selector. So two words that differ in a bit differ in the
operation or in its don't-care operand. -/
def Obligations.DecodeThenEncode : Prop :=
  ∀ (w : CodeWord) (i : Instr), decode w = .ok i →
    (encode i).space = w.space ∧ (encode i).bits = w.bits ∧
    (∀ t, i = .pressStart t ∨ i = .pressStop t → (encode i).idle = w.idle)

/-- R73, R79, R80: every word of its space's width names an operation, but for the RST word 0; a
wider word names none. -/
def Obligations.EveryCodeWordOfItsWidthDecodes : Prop :=
  ∀ w : CodeWord,
    ((∃ i, decode w = .ok i) ↔ (w.bits.toNat < 2 ^ w.space.width ∧ ¬ (w.space = .rst ∧ w.bits = 0)))

/-- R101, R102: the control operation an edge performs, by precedence: a press, by DisplayState; then
a tick, alone or with a release; then a release; then NOP. -/
def Obligations.ControlOperationByPrecedence : Prop :=
  ∀ s : State,
    s.controlOp =
      (if s.btnS2 = true ∧ s.btnPrev = false then
        (if s.counter = 255 then .pressStart (decide (s.tickCnt = s.params.tickPeriod - 1))
         else .pressStop (decide (s.tickCnt = s.params.tickPeriod - 1)))
       else if s.tickCnt = s.params.tickPeriod - 1 then
        (if s.btnS2 = false ∧ s.btnPrev = true then .releaseTick else .tick s.btnS2)
       else if s.btnS2 = false ∧ s.btnPrev = true then .release
       else .nop s.btnS2)

/-! ### Control operations -/

/-- R104: NOP, CEV `0 L 0`, leaves DisplayState; the timer and the synchronizer go on. -/
def Obligations.NopKeepsDisplayState : Prop :=
  ∀ (l b : Bool) (s : State), s.sampleBtn = some b →
    (∀ idle, decodeCev idle (cevBits false l false) = .nop l) ∧
    exec (.nop l) s = .next { s with
      tickCnt := if s.tickCnt ≥ s.params.tickPeriod - 1 then 0 else s.tickCnt + 1
      btnS1 := b, btnS2 := s.btnS1, btnPrev := s.btnS2 }

/-- R107: RELEASE, CEV `1 0 0`, takes no action; the timer and the synchronizer go on. -/
def Obligations.ReleaseKeepsDisplayState : Prop :=
  ∀ (b : Bool) (s : State), s.sampleBtn = some b →
    (∀ idle, decodeCev idle 0b100 = .release) ∧
    exec .release s = .next { s with
      tickCnt := if s.tickCnt ≥ s.params.tickPeriod - 1 then 0 else s.tickCnt + 1
      btnS1 := b, btnS2 := s.btnS1, btnPrev := s.btnS2 }

/-- R108: TICK, CEV `0 L 1`, does nothing to DisplayState unless running; running, it adds one modulo 256 and
clears `running` when the new value exceeds 63. -/
def Obligations.TickAdvancesRunningCounter : Prop :=
  ∀ (l b : Bool) (s : State), s.sampleBtn = some b →
    (∀ idle, decodeCev idle (cevBits false l true) = .tick l) ∧
    exec (.tick l) s = .next { s with
      counter := if s.running = true then BitVec.ofNat 8 ((s.counter.toNat + 1) % 256) else s.counter
      running := if s.running = true ∧ (s.counter.toNat + 1) % 256 > 63 then false else s.running
      tickCnt := if s.tickCnt ≥ s.params.tickPeriod - 1 then 0 else s.tickCnt + 1
      btnS1 := b, btnS2 := s.btnS1, btnPrev := s.btnS2 }

/-- R109: RELEASE_TICK, CEV `1 0 1`, is exactly TICK. -/
def Obligations.ReleaseTickAdvancesRunningCounter : Prop :=
  ∀ (b : Bool) (s : State), s.sampleBtn = some b →
    (∀ idle, decodeCev idle 0b101 = .releaseTick) ∧
    exec .releaseTick s = .next { s with
      counter := if s.running = true then BitVec.ofNat 8 ((s.counter.toNat + 1) % 256) else s.counter
      running := if s.running = true ∧ (s.counter.toNat + 1) % 256 > 63 then false else s.running
      tickCnt := if s.tickCnt ≥ s.params.tickPeriod - 1 then 0 else s.tickCnt + 1
      btnS1 := b, btnS2 := s.btnS1, btnPrev := s.btnS2 }

/-- R105: PRESS_START sets `(0, 1)` and clears the timer; it is the operation of CEV `1 1 T` at
counter 255, whatever `running` and T are. -/
def Obligations.PressStartBeginsCountdown : Prop :=
  ∀ (t b : Bool) (s : State), s.sampleBtn = some b →
    decodeCev true (cevBits true true t) = .pressStart t ∧
    (s.press = true → s.counter = 255 → s.controlOp = .pressStart s.tickEvent) ∧
    exec (.pressStart t) s = .next { s with
      counter := 0, running := true, tickCnt := 0
      btnS1 := b, btnS2 := s.btnS1, btnPrev := s.btnS2 }

/-- R106: PRESS_STOP sets `(255, 0)` whatever the counter was, and does not clear the timer; it is
the operation of CEV `1 1 T` at every counter but 255. -/
def Obligations.PressStopReturnsToIdle : Prop :=
  ∀ (t b : Bool) (s : State), s.sampleBtn = some b →
    decodeCev false (cevBits true true t) = .pressStop t ∧
    (s.press = true → s.counter ≠ 255 → s.controlOp = .pressStop s.tickEvent) ∧
    exec (.pressStop t) s = .next { s with
      counter := 255, running := false
      tickCnt := if s.tickCnt ≥ s.params.tickPeriod - 1 then 0 else s.tickCnt + 1
      btnS1 := b, btnS2 := s.btnS1, btnPrev := s.btnS2 }

/-- R274, 93_implementation_defined.md I16: where `btn` is floating, the control operations are
refused by name. -/
def Obligations.ControlOperationsRefuseFloatingButton : Prop :=
  ∀ (s : State) (l : Bool), s.input.btn = .floating →
    exec (.nop l) s = .refused .floatingButton ∧ exec (.tick l) s = .refused .floatingButton ∧
    exec .release s = .refused .floatingButton ∧ exec .releaseTick s = .refused .floatingButton ∧
    exec (.pressStart l) s = .refused .floatingButton ∧
    exec (.pressStop l) s = .refused .floatingButton

/-- R110: a press that coincides with a tick leaves DisplayState as the tick first and the press
second would: TICK from s leaves u, and the press operation that u's counter selects runs from u. The
premise that DisplayState is reachable (R115) is needed: from `(255, 1)` the tick leaves 0, which
makes the press a stop, and from `(254, 1)` it leaves 255, which makes it a start, while the press
alone does the other. -/
def Obligations.PressDropsCoincidentTick : Prop :=
  ∀ (s c u v : State), s.DisplayInv → s.press = true → s.tickEvent = true →
    exec s.controlOp s = .next c → exec (.tick true) s = .next u →
    exec (if u.counter = 255 then .pressStart true else .pressStop true) u = .next v →
    c.counter = v.counter ∧ c.running = v.running

/-! ### Phase operations -/

/-- R211: FETCH takes the snapshot and the mode. -/
def Obligations.FetchTakesSnapshot : Prop :=
  decodePh 0b000 = .fetch ∧ ∀ s : State,
    exec .fetch s = .next { s with
      snapC := s.counter
      snapR := s.running
      mode := if s.counter = 255 then 0b00 else if s.counter.toNat ≤ 63 then 0b01 else 0b10
      fidx := 0
      ph := 0b001 }

/-- R183: LATCH_LO; `sclk` is 0 in its cycle in every state that keeps the line levels
(StepKeepsLineLevels). -/
def Obligations.LatchLoLowersLatch : Prop :=
  decodePh 0b001 = .latchLo ∧
  (∀ s : State, exec .latchLo s = .next { s with latch := false, bitIdx := 0, ph := 0b010 }) ∧
  ∀ s : State, s.LinesInv → s.ph = 0b001 → s.sclk = false

/-- R184, R181: DATA drives bit `bit_idx` of `W = {~blue, ~green, ~red, row}` of the current frame. -/
def Obligations.DataDrivesWireBit : Prop :=
  decodePh 0b010 = .data ∧ ∀ s : State, ∀ f : Frame, f = frameOf s.params s.mode s.snapC s.fidx →
    exec .data s = .next { s with
      sdata := (~~~f.blue ++ ~~~f.green ++ ~~~f.red ++ f.row : BitVec 32).getLsbD s.bitIdx.toNat
      ph := 0b011 }

/-- R185: CLK_HI. -/
def Obligations.ClkHiRaisesClock : Prop :=
  decodePh 0b011 = .clkHi ∧ ∀ s : State, exec .clkHi s = .next { s with sclk := true, ph := 0b100 }

/-- R186: CLK_LO; `bit_idx` never wraps. -/
def Obligations.ClkLoEndsBitOrFrame : Prop :=
  decodePh 0b100 = .clkLo ∧ ∀ s : State,
    exec .clkLo s = .next { s with
      sclk := false
      bitIdx := if s.bitIdx = 31 then 31 else BitVec.ofNat 5 (s.bitIdx.toNat + 1)
      ph := if s.bitIdx = 31 then 0b101 else 0b010 }

/-- R187 and R212: LATCH_HI and its successor by mode. -/
def Obligations.LatchHiCommitsAndChoosesSuccessor : Prop :=
  decodePh 0b101 = .latchHi ∧ ∀ s : State,
    exec .latchHi s = .next { s with
      latch := true
      fidx := if s.mode = 0b01 ∧ s.fidx ≠ 7 then BitVec.ofNat 3 (s.fidx.toNat + 1) else s.fidx
      dwellCnt := if s.mode = 0b10 then 0 else s.dwellCnt
      ph := if s.mode = 0b01 then (if s.fidx = 7 then 0b000 else 0b001)
            else if s.mode = 0b10 then 0b110 else 0b000 }

/-- R216: DWELL counts, and at its end sends the blank frame or ends the pass. -/
def Obligations.DwellCountsThenMovesOn : Prop :=
  decodePh 0b110 = .dwell ∧ ∀ s : State,
    exec .dwell s = .next { s with
      dwellCnt := if s.dwellCnt ≥ s.params.dwellCycles - 1 then s.dwellCnt else s.dwellCnt + 1
      fidx := if s.dwellCnt ≥ s.params.dwellCycles - 1 ∧ s.fidx = 0 then 1 else s.fidx
      ph := if s.dwellCnt ≥ s.params.dwellCycles - 1 then (if s.fidx = 0 then 0b001 else 0b000)
            else s.ph }

/-- R217: the reserved phase goes to FETCH and changes nothing else. -/
def Obligations.ReservedPhaseGoesToFetch : Prop :=
  decodePh 0b111 = .reservedPh ∧ ∀ s : State, exec .reservedPh s = .next { s with ph := 0b000 }

/-! ### Render functions. The frame stands on the renderer's output net, the model's own field
`frame` (log entry 7); no register of the block changes. -/

/-- R142: RENDER_IDLE yields solid blue on all rows, whatever c and j are, and writes no register.
That `exec` puts the frame on the field `frame` is the model's choice (log entry 7). -/
def Obligations.RenderIdleYieldsSolidBlue : Prop :=
  decodeMode 0b00 = .renderIdle ∧
  (∀ (p : Params) (c : Byte) (j : BitVec 3),
    frameOf p 0b00 c j = { row := 0xFF, red := 0x00, green := 0x00, blue := 0xFF }) ∧
  ∀ s : State, exec .renderIdle s =
    .next { s with frame := { row := 0xFF, red := 0x00, green := 0x00, blue := 0xFF } }

/-- R143: RENDER_OVER yields solid red in phase 0 and blank in every other, whatever c is, and writes
no register. That `exec` puts the frame on the field `frame` is the model's choice (log entry 7). -/
def Obligations.RenderOverYieldsRedThenBlank : Prop :=
  decodeMode 0b10 = .renderOver ∧
  (∀ (p : Params) (c : Byte) (j : BitVec 3),
    frameOf p 0b10 c j =
      if j = 0 then { row := 0xFF, red := 0xFF, green := 0x00, blue := 0x00 }
      else { row := 0x00, red := 0x00, green := 0x00, blue := 0x00 }) ∧
  ∀ s : State, exec .renderOver s =
    .next { s with frame :=
      if s.fidx = 0 then { row := 0xFF, red := 0xFF, green := 0x00, blue := 0x00 }
      else { row := 0x00, red := 0x00, green := 0x00, blue := 0x00 } }

/-- R151: RENDER_RSVD yields the blank frame and writes no register. That `exec` puts the frame on
the field `frame` is the model's choice (log entry 7). -/
def Obligations.RenderRsvdYieldsBlank : Prop :=
  decodeMode 0b11 = .renderRsvd ∧
  (∀ (p : Params) (c : Byte) (j : BitVec 3),
    frameOf p 0b11 c j = { row := 0x00, red := 0x00, green := 0x00, blue := 0x00 }) ∧
  ∀ s : State, exec .renderRsvd s =
    .next { s with frame := { row := 0x00, red := 0x00, green := 0x00, blue := 0x00 } }

/-- R152 with R144 to R149: RENDER_RUN's four masks, written out on natural numbers, for every pair
of tables and every c, and that it writes no register. That `exec` puts the frame on the field `frame`
is the model's choice (log entry 7); that a c above 63 follows the second half's branch is read from
the pseudocode (log entry 17). -/
def Obligations.RenderRunYieldsSweepFrame : Prop :=
  decodeMode 0b01 = .renderRun ∧
  (∀ (p : Params) (c : Byte) (j : BitVec 3) (f : Frame), f = frameOf p 0b01 c j →
    (f.row.toNat = if c.toNat < 32 then 2 ^ (7 - j.toNat) else 2 ^ j.toNat) ∧
    (f.red.toNat =
      if c.toNat < 32 then
        (if j.toNat = c.toNat / 4 % 8 then
          16 * (p.growR.get ⟨c.toNat % 8, Nat.mod_lt _ (Nat.succ_pos 7)⟩).toNat
         else if j.toNat < c.toNat / 4 % 8 then 0xF0 else 0x00)
      else
        (if j.toNat = c.toNat / 4 % 8 then
          0xF0 + (p.growL.get ⟨c.toNat % 8, Nat.mod_lt _ (Nat.succ_pos 7)⟩).toNat
         else if j.toNat < c.toNat / 4 % 8 then 0xFF else 0xF0)) ∧
    (f.green.toNat = 0xFF - f.red.toNat) ∧ f.blue = 0x00) ∧
  ∀ s : State, exec .renderRun s =
    .next { s with frame := frameOf s.params 0b01 s.snapC s.fidx }

/-! ### Reset -/

/-- R270: RESET gives every register its reset value, whatever the state was. The parameters (R33),
the renderer's net and what the environment drives are not registers: that RESET keeps `frame`, `stim`
and `edge` is the model's choice (log entries 7, 2 and 3). -/
def Obligations.ResetLoadsEveryRegister : Prop :=
  ∀ s : State,
    exec .reset s = .next {
      counter := 255, running := false, tickCnt := 0
      btnS1 := true, btnS2 := true, btnPrev := true
      ph := 0, mode := 0, snapC := 255, snapR := false, fidx := 0, bitIdx := 0, dwellCnt := 0
      sdata := false, sclk := false, latch := false
      params := s.params
      frame := s.frame, stim := s.stim, edge := s.edge }

/-- R36: the reset value of every register, for every choice of parameters, for this hardware, and
after any edge with `rst` = 1. -/
def Obligations.ResetStateHoldsSpecValues : Prop :=
  ∀ (p : Params) (s u : State),
    s = State.resetWith p ∨ s = State.reset ∨ (u.input.rst = true ∧ step u = .next s) →
    s.counter = 255 ∧ s.running = false ∧ s.tickCnt = 0 ∧
    s.btnS1 = true ∧ s.btnS2 = true ∧ s.btnPrev = true ∧
    s.ph = 0 ∧ s.mode = 0 ∧ s.snapC = 255 ∧ s.snapR = false ∧ s.fidx = 0 ∧ s.bitIdx = 0 ∧
    s.dwellCnt = 0 ∧ s.sdata = false ∧ s.sclk = false ∧ s.latch = false

/-- R270, R273: a reset held for n ≥ 1 edges leaves what one reset edge leaves, whatever `btn` does
and whatever the state was. The clauses on the model's own fields are its choices: `frame` kept (log
entry 7), `stim` and `edge` moved on (log entries 2 and 3). -/
def Obligations.HeldResetIsOneReset : Prop :=
  ∀ (n : Nat) (s : State), (∀ k < n + 1, (s.inputAt k).rst = true) →
    run (n + 1) s = .next { State.resetWith s.params with
      frame := s.frame, stim := s.stim.drop (n + 1), edge := s.edge + (n + 1) }

/-- R273: a reset edge commits nothing: the chain's outputs keep the last committed frame, and its
shift stage its partial bits. -/
def Obligations.ResetCommitsNothing : Prop :=
  ∀ (s t : State) (c : Chain), s.input.rst = true → step s = .next t → chainEdge s t c = c

/-! ### The step -/

/-- R226: an edge performs the operations the registers select, all from the state before it; a reset
edge performs the reset alone. The model's choices, which R226 does not give: `exec` answers one
unit's writes and the step joins them (log entry 9), the render operation is performed at every edge
with `rst` = 0 (log entry 8) and puts its frame on `frame` (log entry 7), and `stim` and `edge` move on
by one edge (log entries 2 and 3). -/
def Obligations.StepRunsTheSelectedOperations : Prop :=
  (∀ s t : State, s.input.rst = true → exec .reset s = .next t →
    step s = .next { t with stim := t.stim.tail, edge := t.edge + 1 }) ∧
  ∀ s c q r : State, s.input.rst = false →
    exec (decodeCev (decide (s.counter = 255)) (cevBits (s.btnS2 ^^ s.btnPrev) s.btnS2
      (decide (s.tickCnt = s.params.tickPeriod - 1)))) s = .next c →
    exec (decodePh s.ph) s = .next q → exec (decodeMode s.mode) s = .next r →
    step s = .next { q with
      counter := c.counter, running := c.running, tickCnt := c.tickCnt
      btnS1 := c.btnS1, btnS2 := c.btnS2, btnPrev := c.btnPrev
      params := s.params, frame := r.frame, stim := s.stim.tail, edge := s.edge + 1 }

/-- R226 with R113 and R224: the step is the spec's whole step. On a reset edge it is RESET_STATE;
otherwise the control unit's whole step (R113) and the sequencer's (R224), both from the state before
the edge. The clauses on the model's own fields are its choices: `frame` holds the frame rendered in
the cycle (log entries 7 and 8), and `stim` and `edge` move on by one edge (log entries 2 and 3). -/
def Obligations.StepIsTheWholeBlockStep : Prop :=
  ∀ (s : State) (b : Bool),
    (s.input.rst = true → step s =
      .next { State.resetWith s.params with
        frame := s.frame, stim := s.stim.tail, edge := s.edge + 1 }) ∧
    (s.input.rst = false → s.sampleBtn = some b → step s =
      .next { wholeSequencerStep s with
        counter := (wholeControlStep s).1
        running := (wholeControlStep s).2.1
        tickCnt := (wholeControlStep s).2.2
        btnS1 := b, btnS2 := s.btnS1, btnPrev := s.btnS2
        frame := s.currentFrame, stim := s.stim.tail, edge := s.edge + 1 })

/-- R222, R240, R274: the block never stops and raises nothing. A step has a next state in every
state, but for an edge with `rst` = 0 at which `btn` is floating, which is refused. -/
def Obligations.StepStopsOnlyOnFloatingButton : Prop :=
  ∀ s : State,
    ((∃ t, step s = .next t) ↔ (s.input.rst = true ∨ s.input.btn ≠ .floating)) ∧
    (s.input.rst = false → s.input.btn = .floating → step s = .refused .floatingButton)

/-- R10, R33, R34: nothing changes the parameters, reset included. -/
def Obligations.ParametersNeverChange : Prop :=
  ∀ s t : State, step s = .next t → t.params = s.params

/-- R112: DisplayState is written by PRESS_START, PRESS_STOP, TICK, RELEASE_TICK and reset alone;
the sequencer and the renderer never write it. -/
def Obligations.DisplayStateHasOneWriter : Prop :=
  (∀ s t : State, step s = .next t → (t.counter ≠ s.counter ∨ t.running ≠ s.running) →
    s.input.rst = true ∨
    (∃ x, s.controlOp = .pressStart x ∨ s.controlOp = .pressStop x ∨ s.controlOp = .tick x) ∨
    s.controlOp = .releaseTick) ∧
  ∀ s q r : State, exec s.phaseOp s = .next q → exec s.renderOp s = .next r →
    q.counter = s.counter ∧ q.running = s.running ∧ r.counter = s.counter ∧ r.running = s.running

/-- R32: which phase writes which output line, that a line holds its level in every other phase, and
that a reset edge lowers all three. -/
def Obligations.LinesAreWrittenByTheirPhases : Prop :=
  ∀ s t : State, step s = .next t →
    (s.input.rst = true → t.sdata = false ∧ t.sclk = false ∧ t.latch = false) ∧
    (s.input.rst = false →
      (s.ph ≠ 0b010 → t.sdata = s.sdata) ∧
      t.sclk = (if s.ph = 0b011 then true else if s.ph = 0b100 then false else s.sclk) ∧
      t.latch = (if s.ph = 0b101 then true else if s.ph = 0b001 then false else s.latch))

/-- R100, R276: every edge with `rst` = 0 shifts the synchronizer, whatever control operation it
performs, and `btn` reaches the state through `btn_s1` alone (R21): two edges that differ in the
level of `btn` only leave states that differ in `btn_s1` only. -/
def Obligations.ButtonReachesStateThroughSynchronizer : Prop :=
  (∀ (s t : State) (b : Bool), s.input.rst = false → s.sampleBtn = some b → step s = .next t →
    t.btnS1 = b ∧ t.btnS2 = s.btnS1 ∧ t.btnPrev = s.btnS2) ∧
  ∀ (s t u : State) (v w : InputVector), v.rst = w.rst →
    step (s.drive v) = .next t → step (s.drive w) = .next u → { t with btnS1 := u.btnS1 } = u

/-- R111, R276, R277: no debounce. A rise between two consecutive samples acts as a press at the
second edge after the later sample: a start where DisplayState is then idle, else a stop. -/
def Obligations.EverySampledRiseActsTwoEdgesLater : Prop :=
  ∀ s : State, s.Quiet 3 → s.btnS1 = false → s.sampleBtn = some true →
    ∃ u t, run 2 s = .next u ∧ run 3 s = .next t ∧
      t.counter = (if u.counter = 255 then 0 else 255) ∧
      t.running = decide (u.counter = 255)

/-- R101, R272: a level that does not change raises no event. With the button held from before, in
the synchronizer and at every edge, no run of any length changes an idle DisplayState. -/
def Obligations.HeldButtonStartsNothing : Prop :=
  ∀ (n : Nat) (s : State), s.counter = 255 → s.running = false →
    s.btnS1 = true → s.btnS2 = true → s.btnPrev = true →
    (∀ k < n, (s.inputAt k).rst = false ∧ (s.inputAt k).btn = .high) →
    ∃ t, run n s = .next t ∧ t.counter = 255 ∧ t.running = false ∧
      t.btnS1 = true ∧ t.btnS2 = true ∧ t.btnPrev = true

/-! ### Timer and countdown -/

/-- R103: the timer is free-running. Where no PRESS_START and no reset comes, after k edges from 0 it
holds k modulo TICK_PERIOD, so the tick event is there in exactly one of every TICK_PERIOD cycles. -/
def Obligations.TickTimerIsPeriodic : Prop :=
  ∀ (n : Nat) (s : State), s.params.wf = true → s.tickCnt = 0 → s.Quiet n →
    (∀ k < n, ∀ u, run k s = .next u → ¬ (u.press = true ∧ u.counter = 255)) →
    ∃ t, run n s = .next t ∧ t.tickCnt = n % s.params.tickPeriod ∧
      (t.tickEvent = true ↔ n % s.params.tickPeriod = s.params.tickPeriod - 1)

/-- R116, R280: the countdown. From `(0, 1)` with the timer at 0, as PRESS_START leaves them, and no
press and no reset, the counter after k edges is k / TICK_PERIOD; it runs until edge
64 × TICK_PERIOD, at which it freezes at 64. -/
def Obligations.CountdownLastsSixtyFourIntervals : Prop :=
  ∀ (k : Nat) (s : State), s.params.wf = true → s.counter = 0 → s.running = true → s.tickCnt = 0 →
    k ≤ 64 * s.params.tickPeriod → s.Quiet k → s.NoPress k →
    ∃ t, run k s = .next t ∧ t.counter.toNat = k / s.params.tickPeriod ∧
      t.running = decide (k < 64 * s.params.tickPeriod)

/-- R108, R116: overtime is frozen: without a press and a reset, `(64, 0)` stays for any number of
edges. -/
def Obligations.OvertimeStaysFrozen : Prop :=
  ∀ (n : Nat) (s : State), s.counter = 64 → s.running = false → s.Quiet n → s.NoPress n →
    ∃ t, run n s = .next t ∧ t.counter = 64 ∧ t.running = false

/-! ### Frames and passes -/

/-- R140: the three modes, each by its range; 255 is Idle alone (90_conflicts.md C1). Where
DisplayState is reachable (R115), `running` is 1 exactly in mode RUN. -/
def Obligations.ModesPartitionTheCounter : Prop :=
  (∀ c : Byte,
    (modeOf c = 0b00 ↔ c.toNat = 255) ∧ (modeOf c = 0b10 ↔ 64 ≤ c.toNat ∧ c.toNat ≤ 254) ∧
    (modeOf c = 0b01 ↔ c.toNat ≤ 63)) ∧
  ∀ s : State, s.DisplayInv → (s.running = true ↔ modeOf s.counter = 0b01)

/-- R153: for every c in 0..63, whatever the tables, the row masks of the 8 running frames are
one-hot, pairwise distinct, and cover every bit position exactly once. -/
def Obligations.RunningPassMultiplexesRows : Prop :=
  ∀ (p : Params) (c : Byte), c.toNat ≤ 63 →
    (∀ j : BitVec 3, ∃ b < 8, (frameOf p 0b01 c j).row = (1 : Byte) <<< b) ∧
    (∀ j k : BitVec 3, (frameOf p 0b01 c j).row = (frameOf p 0b01 c k).row → j = k) ∧
    (∀ b < 8, ∃ j : BitVec 3, (frameOf p 0b01 c j).row.getLsbD b = true ∧
      ∀ k : BitVec 3, (frameOf p 0b01 c k).row.getLsbD b = true → k = j)

/-- R70, R218, R141: the bit a DATA edge drives is the bit of the frame that the render operation
selected by `mode` yields at that same edge. That the frame stands on the field `frame` is the model's
choice (log entries 7 and 8). -/
def Obligations.DataUsesTheSelectedRenderFunction : Prop :=
  ∀ s : State, s.Quiet 1 → s.ph = 0b010 →
    ∃ r t, exec s.renderOp s = .next r ∧ step s = .next t ∧
      t.sdata = r.frame.wire.getLsbD s.bitIdx.toNat ∧ t.frame = r.frame ∧
      r.frame = frameOf s.params s.mode s.snapC s.fidx

/-- R218: the frame being transmitted changes only at FETCH, at LATCH_HI and at the end of a dwell; a
DWELL edge that still counts leaves it. -/
def Obligations.FrameIsStableWhileShifting : Prop :=
  ∀ s t : State, step s = .next t → s.input.rst = false →
    s.ph ≠ 0b000 → s.ph ≠ 0b101 → ¬ (s.ph = 0b110 ∧ s.dwellCnt ≥ s.params.dwellCycles - 1) →
    t.currentFrame = s.currentFrame

/-- R188, R182, R190: one frame, from its LATCH_LO cycle, takes 98 cycles and drives the lines as the
rule's table says: `latch` falls at edge 1 and stays low until it rises at edge 98; bit k of the wire
word is driven at edge 2 + 3k, with `sclk` low, held over the rise of `sclk` at edge 3 + 3k and its
fall at edge 4 + 3k, and the last bit is held at edge 98. Before bit 0 `sclk` has the level it had in
LATCH_LO, which is 0 in every state that meets StepKeepsLineLevels. Edge n + 1 here is the edge at the
end of the rule's cycle n. -/
def Obligations.FrameTakesNinetyEightCycles : Prop :=
  ∀ s : State, s.ph = 0b001 → s.Quiet 98 →
    (∃ t, run 1 s = .next t ∧ t.latch = false ∧ t.sdata = s.sdata ∧ t.sclk = s.sclk) ∧
    (∀ k < 32, ∃ x y z, run (2 + 3 * k) s = .next x ∧ run (3 + 3 * k) s = .next y ∧
      run (4 + 3 * k) s = .next z ∧
      x.sdata = s.currentFrame.wire.getLsbD k ∧ x.sclk = (if k = 0 then s.sclk else false) ∧
      x.latch = false ∧
      y.sdata = s.currentFrame.wire.getLsbD k ∧ y.sclk = true ∧ y.latch = false ∧
      z.sdata = s.currentFrame.wire.getLsbD k ∧ z.sclk = false ∧ z.latch = false) ∧
    (∃ t, run 97 s = .next t ∧ t.ph = 0b101 ∧ t.latch = false) ∧
    (∃ t, run 98 s = .next t ∧ t.latch = true ∧ t.sclk = false ∧
      t.sdata = s.currentFrame.wire.getLsbD 31)

/-- R182, R189, 95_test_vectors.md section 4: a chain that shifts on the rise of `sclk` and commits on
the rise of `latch` holds, after the 98 cycles of a frame, exactly the frame's 32 bits, first bit
farthest, whatever it held before. That the first bit ends farthest is the observer's convention
(D22, log entry 13). -/
def Obligations.ChainCommitsTheFrame : Prop :=
  ∀ (s : State) (c : Chain), s.ph = 0b001 → s.sclk = false → s.Quiet 98 →
    ∃ t, runWithChain 98 s c = .next (t, {
      q := bitrev32 s.currentFrame.wire, out := some (bitrev32 s.currentFrame.wire) })

/-- R213: an idle pass is FETCH, the idle frame, and FETCH again after 99 cycles, not earlier. -/
def Obligations.IdlePassTakesNinetyNineCycles : Prop :=
  ∀ s : State, s.ph = 0b000 → s.counter = 255 → s.Quiet 99 →
    (∃ u, run 1 s = .next u ∧ u.ph = 0b001 ∧
      u.currentFrame = { row := 0xFF, red := 0x00, green := 0x00, blue := 0xFF }) ∧
    (∀ k, 0 < k → k < 99 → ∃ u, run k s = .next u ∧ u.ph ≠ 0b000) ∧
    (∃ t, run 99 s = .next t ∧ t.ph = 0b000)

/-- R214: a running pass sends the frames j = 0, …, 7 of its snapshot, back to back, and fetches again
after 785 cycles, not earlier. -/
def Obligations.RunningPassSendsEightFrames : Prop :=
  ∀ s : State, s.ph = 0b000 → s.counter.toNat ≤ 63 → s.Quiet 785 →
    (∀ j < 8, ∃ u, run (1 + 98 * j) s = .next u ∧ u.ph = 0b001 ∧
      u.currentFrame = frameOf s.params 0b01 s.counter (BitVec.ofNat 3 j)) ∧
    (∀ k, 0 < k → k < 785 → ∃ u, run k s = .next u ∧ u.ph ≠ 0b000) ∧
    (∃ t, run 785 s = .next t ∧ t.ph = 0b000)

/-- R215, R216, R220: an overtime pass sends red, dwells DWELL_CYCLES cycles, sends blank, dwells
DWELL_CYCLES cycles, and fetches again after 197 + 2 × DWELL_CYCLES cycles, not earlier. The dwells
are not cut short by a press: nothing is assumed of `btn` but that it is a valid level. -/
def Obligations.OvertimePassSendsRedAndBlank : Prop :=
  ∀ (s : State) (d : Nat), s.ph = 0b000 → 64 ≤ s.counter.toNat → s.counter.toNat ≤ 254 →
    s.params.wf = true → d = s.params.dwellCycles → s.Quiet (197 + 2 * d) →
    (∃ u, run 1 s = .next u ∧ u.ph = 0b001 ∧
      u.currentFrame = { row := 0xFF, red := 0xFF, green := 0x00, blue := 0x00 }) ∧
    (∀ k < d, ∃ u, run (99 + k) s = .next u ∧ u.ph = 0b110 ∧ u.dwellCnt = k) ∧
    (∃ u, run (99 + d) s = .next u ∧ u.ph = 0b001 ∧
      u.currentFrame = { row := 0x00, red := 0x00, green := 0x00, blue := 0x00 }) ∧
    (∀ k < d, ∃ u, run (197 + d + k) s = .next u ∧ u.ph = 0b110 ∧ u.dwellCnt = k) ∧
    (∀ k, 0 < k → k < 197 + 2 * d → ∃ u, run k s = .next u ∧ u.ph ≠ 0b000) ∧
    (∃ t, run (197 + 2 * d) s = .next t ∧ t.ph = 0b000)

/-- R219, R225: within a pass the sequencer does not see the control unit. Two states whose
sequencers agree, whatever their DisplayState, timer, synchronizer and button levels, have sequencers
that agree after one edge with `rst` = 0 in any phase but FETCH, and show the same frame. -/
def Obligations.PassIgnoresControlUnit : Prop :=
  ∀ s u t v : State, SameSequencer s u → s.ph ≠ 0b000 →
    s.input.rst = false → u.input.rst = false → step s = .next t → step u = .next v →
    SameSequencer t v ∧ t.currentFrame = v.currentFrame

/-- R278, R221, R222: the next FETCH comes within the length of the pass in progress, from every
state of a pass, whatever the button does: the FETCH is performed at edge k + 1, counted from now. -/
def Obligations.FetchComesWithinOnePass : Prop :=
  ∀ s : State, s.SequencerInv → s.Quiet (passLength s.params s.mode) →
    s.params.wf = true →
    ∃ k t, k + 1 ≤ passLength s.params s.mode ∧ run k s = .next t ∧ t.ph = 0b000

/-- R272: from reset, with no further reset and whatever the button does, the first commit is the idle
frame at edge 99; nothing is committed before. The chain shows the wire word 0x00FFFFFF bit-reversed
(95_test_vectors.md section 4). -/
def Obligations.FirstCommitAfterResetIsIdleFrame : Prop :=
  ∀ (p : Params) (s : State) (q : WireWord) (stim : List InputVector),
    s = { State.resetWith p with stim := stim } → s.Quiet 99 →
    (∀ k < 99, ∃ t q', runWithChain k s { q := q, out := none } = .next (t, { q := q', out := none })) ∧
    ∃ t, runWithChain 99 s { q := q, out := none } =
      .next (t, { q := 0xFFFFFF00, out := some 0xFFFFFF00 }) ∧ t.latch = true

/-! ### Invariants -/

/-- R115: every step keeps DisplayState in the set S. -/
def Obligations.StepKeepsDisplayStateReachable : Prop :=
  ∀ s t : State, s.DisplayInv → step s = .next t → t.DisplayInv

/-- R24, R31, R37: every step keeps both cycle counters below their periods. -/
def Obligations.StepKeepsCountersInRange : Prop :=
  ∀ s t : State, s.CountersInv → step s = .next t → t.CountersInv

/-- R10, R24, R31: the two counters, natural numbers in the model, never outgrow their registers of TW
and DW bits. This is the model's choice of type (log entry 10), so it is stated. -/
def Obligations.StepKeepsCountersInTheirWidths : Prop :=
  ∀ s t : State, s.params.wf = true → s.WidthsInv → step s = .next t → t.WidthsInv

/-- R37, R140, R210: every step keeps the sequencer at a position of a pass; the reserved codes are
never reached. -/
def Obligations.StepKeepsSequencerInPass : Prop :=
  ∀ s t : State, s.DisplayInv ∧ s.SequencerInv → step s = .next t → t.DisplayInv ∧ t.SequencerInv

/-- R183, R187, R190: every step keeps `sclk` high in the CLK_LO cycle alone and `latch` low while a
frame is shifted. -/
def Obligations.StepKeepsLineLevels : Prop :=
  ∀ s t : State, s.LinesInv → step s = .next t → t.LinesInv

/-- R36, R115: the reset state meets every invariant, for every legal choice of parameters and for this
hardware. -/
def Obligations.ResetStateMeetsInvariants : Prop :=
  ∀ (p : Params) (s : State), (p.wf = true ∧ s = State.resetWith p) ∨ s = State.reset →
    s.DisplayInv ∧ s.CountersInv ∧ s.WidthsInv ∧ s.SequencerInv ∧ s.LinesInv
end

