-- ==== Sys2Proof/Laws/State.lean ====
section
/-!
SUPPORT. One lemma per field and state update, each by rfl, so that no proof unfolds an update.
-/

namespace Sys2Proof.Machine

@[simp] theorem advance_counter (s : State) : s.advance.counter = s.counter := rfl
@[simp] theorem advance_running (s : State) : s.advance.running = s.running := rfl
@[simp] theorem advance_tickCnt (s : State) : s.advance.tickCnt = s.tickCnt := rfl
@[simp] theorem advance_btnS1 (s : State) : s.advance.btnS1 = s.btnS1 := rfl
@[simp] theorem advance_btnS2 (s : State) : s.advance.btnS2 = s.btnS2 := rfl
@[simp] theorem advance_btnPrev (s : State) : s.advance.btnPrev = s.btnPrev := rfl
@[simp] theorem advance_ph (s : State) : s.advance.ph = s.ph := rfl
@[simp] theorem advance_mode (s : State) : s.advance.mode = s.mode := rfl
@[simp] theorem advance_snapC (s : State) : s.advance.snapC = s.snapC := rfl
@[simp] theorem advance_snapR (s : State) : s.advance.snapR = s.snapR := rfl
@[simp] theorem advance_fidx (s : State) : s.advance.fidx = s.fidx := rfl
@[simp] theorem advance_bitIdx (s : State) : s.advance.bitIdx = s.bitIdx := rfl
@[simp] theorem advance_dwellCnt (s : State) : s.advance.dwellCnt = s.dwellCnt := rfl
@[simp] theorem advance_sdata (s : State) : s.advance.sdata = s.sdata := rfl
@[simp] theorem advance_sclk (s : State) : s.advance.sclk = s.sclk := rfl
@[simp] theorem advance_latch (s : State) : s.advance.latch = s.latch := rfl
@[simp] theorem advance_params (s : State) : s.advance.params = s.params := rfl
@[simp] theorem advance_frame (s : State) : s.advance.frame = s.frame := rfl
@[simp] theorem advance_stim (s : State) : s.advance.stim = s.stim.tail := rfl
@[simp] theorem advance_edge (s : State) : s.advance.edge = s.edge + 1 := rfl

@[simp] theorem drive_counter (s : State) (v : InputVector) : (s.drive v).counter = s.counter := rfl
@[simp] theorem drive_running (s : State) (v : InputVector) : (s.drive v).running = s.running := rfl
@[simp] theorem drive_tickCnt (s : State) (v : InputVector) : (s.drive v).tickCnt = s.tickCnt := rfl
@[simp] theorem drive_btnS1 (s : State) (v : InputVector) : (s.drive v).btnS1 = s.btnS1 := rfl
@[simp] theorem drive_btnS2 (s : State) (v : InputVector) : (s.drive v).btnS2 = s.btnS2 := rfl
@[simp] theorem drive_btnPrev (s : State) (v : InputVector) : (s.drive v).btnPrev = s.btnPrev := rfl
@[simp] theorem drive_ph (s : State) (v : InputVector) : (s.drive v).ph = s.ph := rfl
@[simp] theorem drive_mode (s : State) (v : InputVector) : (s.drive v).mode = s.mode := rfl
@[simp] theorem drive_snapC (s : State) (v : InputVector) : (s.drive v).snapC = s.snapC := rfl
@[simp] theorem drive_snapR (s : State) (v : InputVector) : (s.drive v).snapR = s.snapR := rfl
@[simp] theorem drive_fidx (s : State) (v : InputVector) : (s.drive v).fidx = s.fidx := rfl
@[simp] theorem drive_bitIdx (s : State) (v : InputVector) : (s.drive v).bitIdx = s.bitIdx := rfl
@[simp] theorem drive_dwellCnt (s : State) (v : InputVector) : (s.drive v).dwellCnt = s.dwellCnt := rfl
@[simp] theorem drive_sdata (s : State) (v : InputVector) : (s.drive v).sdata = s.sdata := rfl
@[simp] theorem drive_sclk (s : State) (v : InputVector) : (s.drive v).sclk = s.sclk := rfl
@[simp] theorem drive_latch (s : State) (v : InputVector) : (s.drive v).latch = s.latch := rfl
@[simp] theorem drive_params (s : State) (v : InputVector) : (s.drive v).params = s.params := rfl
@[simp] theorem drive_frame (s : State) (v : InputVector) : (s.drive v).frame = s.frame := rfl
@[simp] theorem drive_stim (s : State) (v : InputVector) : (s.drive v).stim = v :: s.stim.tail := rfl
@[simp] theorem drive_edge (s : State) (v : InputVector) : (s.drive v).edge = s.edge := rfl

@[simp] theorem joinUnits_counter (s c q r : State) : (joinUnits s c q r).counter = c.counter := rfl
@[simp] theorem joinUnits_running (s c q r : State) : (joinUnits s c q r).running = c.running := rfl
@[simp] theorem joinUnits_tickCnt (s c q r : State) : (joinUnits s c q r).tickCnt = c.tickCnt := rfl
@[simp] theorem joinUnits_btnS1 (s c q r : State) : (joinUnits s c q r).btnS1 = c.btnS1 := rfl
@[simp] theorem joinUnits_btnS2 (s c q r : State) : (joinUnits s c q r).btnS2 = c.btnS2 := rfl
@[simp] theorem joinUnits_btnPrev (s c q r : State) : (joinUnits s c q r).btnPrev = c.btnPrev := rfl
@[simp] theorem joinUnits_ph (s c q r : State) : (joinUnits s c q r).ph = q.ph := rfl
@[simp] theorem joinUnits_mode (s c q r : State) : (joinUnits s c q r).mode = q.mode := rfl
@[simp] theorem joinUnits_snapC (s c q r : State) : (joinUnits s c q r).snapC = q.snapC := rfl
@[simp] theorem joinUnits_snapR (s c q r : State) : (joinUnits s c q r).snapR = q.snapR := rfl
@[simp] theorem joinUnits_fidx (s c q r : State) : (joinUnits s c q r).fidx = q.fidx := rfl
@[simp] theorem joinUnits_bitIdx (s c q r : State) : (joinUnits s c q r).bitIdx = q.bitIdx := rfl
@[simp] theorem joinUnits_dwellCnt (s c q r : State) : (joinUnits s c q r).dwellCnt = q.dwellCnt := rfl
@[simp] theorem joinUnits_sdata (s c q r : State) : (joinUnits s c q r).sdata = q.sdata := rfl
@[simp] theorem joinUnits_sclk (s c q r : State) : (joinUnits s c q r).sclk = q.sclk := rfl
@[simp] theorem joinUnits_latch (s c q r : State) : (joinUnits s c q r).latch = q.latch := rfl
@[simp] theorem joinUnits_params (s c q r : State) : (joinUnits s c q r).params = s.params := rfl
@[simp] theorem joinUnits_frame (s c q r : State) : (joinUnits s c q r).frame = r.frame := rfl
@[simp] theorem joinUnits_stim (s c q r : State) : (joinUnits s c q r).stim = s.stim := rfl
@[simp] theorem joinUnits_edge (s c q r : State) : (joinUnits s c q r).edge = s.edge := rfl

@[simp] theorem resetWith_counter (p : Params) : (State.resetWith p).counter = 255 := rfl
@[simp] theorem resetWith_running (p : Params) : (State.resetWith p).running = false := rfl
@[simp] theorem resetWith_tickCnt (p : Params) : (State.resetWith p).tickCnt = 0 := rfl
@[simp] theorem resetWith_btnS1 (p : Params) : (State.resetWith p).btnS1 = true := rfl
@[simp] theorem resetWith_btnS2 (p : Params) : (State.resetWith p).btnS2 = true := rfl
@[simp] theorem resetWith_btnPrev (p : Params) : (State.resetWith p).btnPrev = true := rfl
@[simp] theorem resetWith_ph (p : Params) : (State.resetWith p).ph = 0 := rfl
@[simp] theorem resetWith_mode (p : Params) : (State.resetWith p).mode = 0 := rfl
@[simp] theorem resetWith_snapC (p : Params) : (State.resetWith p).snapC = 255 := rfl
@[simp] theorem resetWith_snapR (p : Params) : (State.resetWith p).snapR = false := rfl
@[simp] theorem resetWith_fidx (p : Params) : (State.resetWith p).fidx = 0 := rfl
@[simp] theorem resetWith_bitIdx (p : Params) : (State.resetWith p).bitIdx = 0 := rfl
@[simp] theorem resetWith_dwellCnt (p : Params) : (State.resetWith p).dwellCnt = 0 := rfl
@[simp] theorem resetWith_sdata (p : Params) : (State.resetWith p).sdata = false := rfl
@[simp] theorem resetWith_sclk (p : Params) : (State.resetWith p).sclk = false := rfl
@[simp] theorem resetWith_latch (p : Params) : (State.resetWith p).latch = false := rfl
@[simp] theorem resetWith_params (p : Params) : (State.resetWith p).params = p := rfl
@[simp] theorem resetWith_frame (p : Params) : (State.resetWith p).frame = { row := 0xFF, red := 0x00, green := 0x00, blue := 0xFF } := rfl
@[simp] theorem resetWith_stim (p : Params) : (State.resetWith p).stim = [] := rfl
@[simp] theorem resetWith_edge (p : Params) : (State.resetWith p).edge = 0 := rfl

@[simp] theorem resetRegisters_counter (s : State) : s.resetRegisters.counter = 255 := rfl
@[simp] theorem resetRegisters_running (s : State) : s.resetRegisters.running = false := rfl
@[simp] theorem resetRegisters_tickCnt (s : State) : s.resetRegisters.tickCnt = 0 := rfl
@[simp] theorem resetRegisters_btnS1 (s : State) : s.resetRegisters.btnS1 = true := rfl
@[simp] theorem resetRegisters_btnS2 (s : State) : s.resetRegisters.btnS2 = true := rfl
@[simp] theorem resetRegisters_btnPrev (s : State) : s.resetRegisters.btnPrev = true := rfl
@[simp] theorem resetRegisters_ph (s : State) : s.resetRegisters.ph = 0 := rfl
@[simp] theorem resetRegisters_mode (s : State) : s.resetRegisters.mode = 0 := rfl
@[simp] theorem resetRegisters_snapC (s : State) : s.resetRegisters.snapC = 255 := rfl
@[simp] theorem resetRegisters_snapR (s : State) : s.resetRegisters.snapR = false := rfl
@[simp] theorem resetRegisters_fidx (s : State) : s.resetRegisters.fidx = 0 := rfl
@[simp] theorem resetRegisters_bitIdx (s : State) : s.resetRegisters.bitIdx = 0 := rfl
@[simp] theorem resetRegisters_dwellCnt (s : State) : s.resetRegisters.dwellCnt = 0 := rfl
@[simp] theorem resetRegisters_sdata (s : State) : s.resetRegisters.sdata = false := rfl
@[simp] theorem resetRegisters_sclk (s : State) : s.resetRegisters.sclk = false := rfl
@[simp] theorem resetRegisters_latch (s : State) : s.resetRegisters.latch = false := rfl
@[simp] theorem resetRegisters_params (s : State) : s.resetRegisters.params = s.params := rfl
@[simp] theorem resetRegisters_frame (s : State) : s.resetRegisters.frame = s.frame := rfl
@[simp] theorem resetRegisters_stim (s : State) : s.resetRegisters.stim = s.stim := rfl
@[simp] theorem resetRegisters_edge (s : State) : s.resetRegisters.edge = s.edge := rfl

end Sys2Proof.Machine
end

