-- ==== Sys2Proof/Laws/Ops.lean ====
section
/-!
SUPPORT. One lemma per shared operation, saying everything it can do; provers cite these and do not
unfold the operation.
-/

namespace Sys2Proof.Machine

/-! ### Inputs -/

@[simp] theorem inputAt_zero (s : State) : s.inputAt 0 = s.input := rfl

/-- Advancing moves every later input vector one edge nearer. -/
@[simp] theorem advance_inputAt (s : State) (k : Nat) : s.advance.inputAt k = s.inputAt (k + 1) := by
  cases h : s.stim <;> simp [State.inputAt, State.advance, h]

/-- Inputs depend on the stimulus alone. -/
theorem inputAt_congr {s t : State} (h : s.stim = t.stim) (k : Nat) : s.inputAt k = t.inputAt k := by
  simp [State.inputAt, h]

@[simp] theorem joinUnits_inputAt (s c q r : State) (k : Nat) :
    (joinUnits s c q r).inputAt k = s.inputAt k := rfl

@[simp] theorem resetRegisters_inputAt (s : State) (k : Nat) :
    s.resetRegisters.inputAt k = s.inputAt k := rfl

/-- `btn` has a sample exactly when it is not floating (R274). -/
theorem sampleBtn_isSome_iff (s : State) :
    s.sampleBtn.isSome = true ↔ s.input.btn ≠ .floating := by
  unfold State.sampleBtn; cases s.input.btn <;> simp

/-- A quiet stretch can be cut short. -/
theorem Quiet_mono {s : State} {m n : Nat} (hmn : m ≤ n) (h : s.Quiet n) : s.Quiet m :=
  fun k hk => h k (Nat.lt_of_lt_of_le hk hmn)

/-- Where the stimulus is used up, nothing resets the block and `btn` is never floating. -/
theorem Quiet_of_no_stimulus {s : State} (h : s.stim = []) (n : Nat) : s.Quiet n := by
  intro k _
  simp [State.inputAt, h, undriven]

/-- An edge later, one input vector fewer is left of a quiet stretch. -/
theorem Quiet_of_step {s t : State} {n : Nat} (h : s.Quiet (n + 1)) (e : t.stim = s.stim.tail) : t.Quiet n := by
  intro k hk
  have : t.inputAt k = s.inputAt (k + 1) := by
    rw [← advance_inputAt]; exact inputAt_congr e k
  rw [this]
  exact h _ (by omega)

/-! ### The combinators -/

/-- What `andThen` can answer with a next state. -/
theorem andThen_next {r : Result} {k : State → Result} {t : State} :
    andThen r k = .next t ↔ ∃ s, r = .next s ∧ k s = .next t := by
  cases r <;> simp [andThen]

@[simp] theorem andThen_of_next (s : State) (k : State → Result) : andThen (.next s) k = k s := rfl

/-- Everything `controlEdge` can do when it answers a next state. -/
theorem controlEdge_next {s t : State} {c : Byte} {r : Bool} {n : Nat} :
    controlEdge s c r n = .next t ↔ ∃ b, s.sampleBtn = some b ∧
      t = { s with counter := c, running := r, tickCnt := n, btnS1 := b, btnS2 := s.btnS1, btnPrev := s.btnS2 } := by
  unfold controlEdge; cases s.sampleBtn <;> simp [eq_comm]

/-- `controlEdge` where the button has a sample. -/
theorem controlEdge_of_sample {s : State} {b : Bool} (h : s.sampleBtn = some b) (c : Byte) (r : Bool) (n : Nat) :
    controlEdge s c r n =
      .next { s with counter := c, running := r, tickCnt := n, btnS1 := b, btnS2 := s.btnS1, btnPrev := s.btnS2 } := by
  simp [controlEdge, h]

/-- `controlEdge` refuses a floating button (R274). -/
theorem controlEdge_of_floating {s : State} (h : s.sampleBtn = none) (c : Byte) (r : Bool) (n : Nat) :
    controlEdge s c r n = .refused .floatingButton := by
  simp [controlEdge, h]

/-! ### Selection -/

/-- The render operation puts the frame being transmitted on the renderer's net (R141, R218). -/
theorem exec_renderOp (s : State) : exec s.renderOp s = .next { s with frame := s.currentFrame } := by
  unfold State.renderOp decodeMode State.currentFrame frameOf
  split_ifs <;> rfl

/-- The control operation has a next state where the button has a sample, and it touches nothing but
the control unit's six registers (R226). -/
theorem exec_controlOp_of_sample {s : State} {b : Bool} (h : s.sampleBtn = some b) :
    ∃ c r n, exec s.controlOp s =
      .next { s with counter := c, running := r, tickCnt := n, btnS1 := b, btnS2 := s.btnS1, btnPrev := s.btnS2 } := by
  unfold State.controlOp decodeCev
  split
  · exact ⟨_, _, _, controlEdge_of_sample h _ _ _⟩
  · exact ⟨_, _, _, controlEdge_of_sample h _ _ _⟩
  · exact ⟨_, _, _, controlEdge_of_sample h _ _ _⟩
  · exact ⟨_, _, _, controlEdge_of_sample h _ _ _⟩
  · split <;> exact ⟨_, _, _, controlEdge_of_sample h _ _ _⟩

/-- The control operation refuses a floating button, whichever it is (R274). -/
theorem exec_controlOp_of_floating {s : State} (h : s.sampleBtn = none) :
    exec s.controlOp s = .refused .floatingButton := by
  unfold State.controlOp decodeCev
  split
  · exact controlEdge_of_floating h _ _ _
  · exact controlEdge_of_floating h _ _ _
  · exact controlEdge_of_floating h _ _ _
  · exact controlEdge_of_floating h _ _ _
  · split <;> exact controlEdge_of_floating h _ _ _

/-- The eight phases, each with the operation it selects (R74). -/
theorem phase_cases (s : State) :
    (s.ph = Ph.fetch ∧ s.phaseOp = .fetch) ∨ (s.ph = Ph.latchLo ∧ s.phaseOp = .latchLo) ∨
    (s.ph = Ph.data ∧ s.phaseOp = .data) ∨ (s.ph = Ph.clkHi ∧ s.phaseOp = .clkHi) ∨
    (s.ph = Ph.clkLo ∧ s.phaseOp = .clkLo) ∨ (s.ph = Ph.latchHi ∧ s.phaseOp = .latchHi) ∨
    (s.ph = Ph.dwell ∧ s.phaseOp = .dwell) ∨ (s.ph = Ph.reserved ∧ s.phaseOp = .reservedPh) := by
  unfold State.phaseOp
  generalize s.ph = w
  revert w; decide

/-- Every phase operation has a next state and writes only the sequencer's ten registers (R226). -/
theorem exec_phaseOp_next (s : State) : ∃ q, exec s.phaseOp s = .next q := by
  obtain ⟨_, h⟩ | ⟨_, h⟩ | ⟨_, h⟩ | ⟨_, h⟩ | ⟨_, h⟩ | ⟨_, h⟩ | ⟨_, h⟩ | ⟨_, h⟩ := phase_cases s <;>
    rw [h] <;> simp only [exec, execFetch, execLatchLo, execData, execClkHi, execClkLo, execLatchHi, execDwell,
      execReservedPh] <;>
    first | exact ⟨_, rfl⟩ | (split_ifs <;> exact ⟨_, rfl⟩)

/-! ### The step -/

/-- A reset edge (R270). -/
theorem step_of_reset {s : State} (h : s.input.rst = true) :
    step s = .next s.resetRegisters.advance := by
  simp [step, clockEdge, h, exec, execReset]

/-- An edge with `rst` = 0 joins what the units write, all from the state before it (R226). -/
theorem step_of_units {s c q : State} (hr : s.input.rst = false) (hc : exec s.controlOp s = .next c)
    (hq : exec s.phaseOp s = .next q) :
    step s = .next (joinUnits s c q { s with frame := s.currentFrame }).advance := by
  simp [step, clockEdge, hr, hc, hq, exec_renderOp]

/-- Everything a step can do when it answers a next state. -/
theorem step_next_cases {s t : State} (h : step s = .next t) :
    (s.input.rst = true ∧ t = s.resetRegisters.advance) ∨
    (s.input.rst = false ∧ ∃ b c q, s.sampleBtn = some b ∧ exec s.controlOp s = .next c ∧
      exec s.phaseOp s = .next q ∧ t = (joinUnits s c q { s with frame := s.currentFrame }).advance) := by
  by_cases hr : s.input.rst = true
  · rw [step_of_reset hr] at h
    exact .inl ⟨hr, by simpa using h.symm⟩
  · have hr : s.input.rst = false := by simpa using hr
    obtain ⟨q, hq⟩ := exec_phaseOp_next s
    cases hb : s.sampleBtn with
    | none => simp [step, clockEdge, hr, exec_controlOp_of_floating hb, andThen] at h
    | some b =>
      obtain ⟨c, r, n, hc⟩ := exec_controlOp_of_sample hb
      rw [step_of_units hr hc hq] at h
      exact .inr ⟨hr, b, _, q, rfl, hc, hq, by simpa using h.symm⟩

/-! ### Runs -/

@[simp] theorem run_zero (s : State) : run 0 s = .next s := rfl

theorem run_succ (n : Nat) (s : State) :
    run (n + 1) s = andThen (step s) (run n) := by
  refine (Host.Core.run.eq_2 Sys2Proof.core s n).trans ?_
  change _ = andThen (Sys2Proof.core.step s) (run n)
  cases Sys2Proof.core.step s <;> rfl

/-- A run of m + n edges is a run of m and then one of n. -/
theorem run_add (m n : Nat) (s : State) : run (m + n) s = andThen (run m s) (run n) := by
  induction m generalizing s with
  | zero => simp
  | succ m ih =>
    rw [Nat.add_right_comm, run_succ, run_succ]
    cases step s with
    | next t => simpa using ih t
    | fault e => rfl
    | refused e => rfl

end Sys2Proof.Machine
end

