-- ==== Sys2Proof/Laws/PerInstr.lean ====
section
/-!
SUPPORT. One family of statements per operation: its code word is well formed and fits its row of
spec/opcode_table.json, whose match lies within its mask.
-/

namespace Sys2Proof.Laws.Encoding

/-- The encoded word is of its space's width, and the bits of the row's mask are the row's match. -/
def Statement (i : Instr) : Prop :=
  (encode i).wf = true ∧ (encode i).bits &&& (tableRow i).2 = (tableRow i).1 ∧
  (tableRow i).1 &&& (tableRow i).2 = (tableRow i).1

theorem reset : Statement .reset := by unfold Statement; decide

theorem nop (l : Bool) : Statement (.nop l) := by cases l <;> (unfold Statement; decide)

theorem tick (l : Bool) : Statement (.tick l) := by cases l <;> (unfold Statement; decide)

theorem release : Statement .release := by unfold Statement; decide

theorem releaseTick : Statement .releaseTick := by unfold Statement; decide

theorem pressStart (t : Bool) : Statement (.pressStart t) := by cases t <;> (unfold Statement; decide)

theorem pressStop (t : Bool) : Statement (.pressStop t) := by cases t <;> (unfold Statement; decide)

theorem fetch : Statement .fetch := by unfold Statement; decide

theorem latchLo : Statement .latchLo := by unfold Statement; decide

theorem data : Statement .data := by unfold Statement; decide

theorem clkHi : Statement .clkHi := by unfold Statement; decide

theorem clkLo : Statement .clkLo := by unfold Statement; decide

theorem latchHi : Statement .latchHi := by unfold Statement; decide

theorem dwell : Statement .dwell := by unfold Statement; decide

theorem reservedPh : Statement .reservedPh := by unfold Statement; decide

theorem renderIdle : Statement .renderIdle := by unfold Statement; decide

theorem renderRun : Statement .renderRun := by unfold Statement; decide

theorem renderOver : Statement .renderOver := by unfold Statement; decide

theorem renderRsvd : Statement .renderRsvd := by unfold Statement; decide

end Sys2Proof.Laws.Encoding
end

