-- ==== Sys2Proof/Tests/Slice0.lean ====
section
/-!
SUPPORT. Tests against the vectors of spec/95_test_vectors.md and the tables of spec/30_encoding.md
(the vector's id stands in each comment), the smoke tests of WellFormed, and for every statement with
hypotheses a witness that meets them together.
-/

namespace Sys2Proof.Tests

open Sys2Proof Sys2Proof.Machine

/-! ### Well-formedness: an ill-formed term for each check -/

theorem test_wf_instr : (Instr.nop true).wf = true := by decide
theorem test_wf_word_too_wide : CodeWord.wf { space := .mode, idle := false, bits := 0b100 } = false := by decide
theorem test_wf_word_rst_too_wide : CodeWord.wf { space := .rst, idle := false, bits := 2 } = false := by decide
theorem test_wf_no_tick_period :
    Params.wf { tickPeriod := 0, dwellCycles := 1, growR := Config.growRDefault, growL := Config.growLDefault } = false := by
  decide
theorem test_wf_no_dwell :
    Params.wf { tickPeriod := 1, dwellCycles := 0, growR := Config.growRDefault, growL := Config.growLDefault } = false := by
  decide
theorem test_wf_empty_drive : Drive.wf { r := false, b := true, n := 0 } = false := by decide

/-! ### Decoding: a word written out from R71 to R75 for every constructor -/

def word (sp : CodeSpace) (idle : Bool) (bits : Byte) : CodeWord := { space := sp, idle := idle, bits := bits }

theorem test_decode_reset : (decode (word .rst false 0b1)).toOption = some .reset := by decide
theorem test_decode_rst0 : (decode (word .rst false 0b0)).toOption = none := by decide
theorem test_decode_nop : (decode (word .cev true 0b000)).toOption = some (.nop false) := by decide
theorem test_decode_nop_held : (decode (word .cev false 0b010)).toOption = some (.nop true) := by decide
theorem test_decode_tick : (decode (word .cev false 0b001)).toOption = some (.tick false) := by decide
theorem test_decode_tick_held : (decode (word .cev true 0b011)).toOption = some (.tick true) := by decide
theorem test_decode_release : (decode (word .cev true 0b100)).toOption = some .release := by decide
theorem test_decode_release_tick : (decode (word .cev true 0b101)).toOption = some .releaseTick := by decide
theorem test_decode_press_start : (decode (word .cev true 0b110)).toOption = some (.pressStart false) := by decide
theorem test_decode_press_stop : (decode (word .cev false 0b111)).toOption = some (.pressStop true) := by decide
theorem test_decode_fetch : (decode (word .ph false 0b000)).toOption = some .fetch := by decide
theorem test_decode_latch_lo : (decode (word .ph false 0b001)).toOption = some .latchLo := by decide
theorem test_decode_data : (decode (word .ph false 0b010)).toOption = some .data := by decide
theorem test_decode_clk_hi : (decode (word .ph false 0b011)).toOption = some .clkHi := by decide
theorem test_decode_clk_lo : (decode (word .ph false 0b100)).toOption = some .clkLo := by decide
theorem test_decode_latch_hi : (decode (word .ph false 0b101)).toOption = some .latchHi := by decide
theorem test_decode_dwell : (decode (word .ph false 0b110)).toOption = some .dwell := by decide
theorem test_decode_reserved : (decode (word .ph false 0b111)).toOption = some .reservedPh := by decide
theorem test_decode_render_idle : (decode (word .mode false 0b00)).toOption = some .renderIdle := by decide
theorem test_decode_render_run : (decode (word .mode false 0b01)).toOption = some .renderRun := by decide
theorem test_decode_render_over : (decode (word .mode false 0b10)).toOption = some .renderOver := by decide
theorem test_decode_render_rsvd : (decode (word .mode false 0b11)).toOption = some .renderRsvd := by decide
theorem test_decode_wide : (decode (word .ph false 0b1000)).toOption = none := by decide

/-- The stimulus of program P4 up to its second hold, `10`×1, `00`×3, `01`×1 (R81, R82). -/
theorem test_stimulus_p4 :
    (stimulus (Drive.reset ++ Drive.free 3 ++ Drive.hold 1)).map encodeInput =
      [some 0b10, some 0b00, some 0b00, some 0b00, some 0b01] := by decide

/-! ### One edge each. C-vectors: `TICK_PERIOD` = 4 -/

/-- The parameters of the vectors of section 2.1. -/
def vecParams : Params :=
  { tickPeriod := 4, dwellCycles := 3, growR := Config.growRDefault, growL := Config.growLDefault }

/-- A row of the C-table before its edge, at which `btn` is low. -/
def before (counter : Byte) (running : Bool) (tickCnt : Nat) (btnS2 btnPrev : Bool) : State :=
  { State.resetWith vecParams with
    counter := counter, running := running, tickCnt := tickCnt, btnS2 := btnS2, btnPrev := btnPrev
    stim := [{ rst := false, btn := .low }] }

/-- The columns of the C-table after the edge. -/
def display (r : Result) : Option (Byte × Bool × Nat × Bool) :=
  match r with
  | .next t => some (t.counter, t.running, t.tickCnt, t.btnPrev)
  | .fault _ => none
  | .refused _ => none

/-- C2. -/
theorem test_nop_c2 : display (step (before 10 true 1 true true)) = some (10, true, 2, true) := by decide
/-- C24: a timer out of range wraps without a tick. -/
theorem test_nop_c24 : display (step (before 5 true 9 false false)) = some (5, true, 0, false) := by decide
/-- C7: the overflow tick. -/
theorem test_tick_c7 : display (step (before 63 true 3 false false)) = some (64, false, 0, false) := by decide
/-- C19: the 8-bit wrap. -/
theorem test_tick_c19 : display (step (before 255 true 3 false false)) = some (0, true, 0, false) := by decide
/-- C9. -/
theorem test_release_c9 : display (step (before 5 true 1 false true)) = some (5, true, 2, false) := by decide
/-- C10. -/
theorem test_release_tick_c10 : display (step (before 5 true 3 false true)) = some (6, true, 0, false) := by decide
/-- C11. -/
theorem test_release_tick_c11 : display (step (before 63 true 3 false true)) = some (64, false, 0, false) := by decide
/-- C13: the tick is dropped and the timer cleared. -/
theorem test_press_start_c13 : display (step (before 255 false 3 true false)) = some (0, true, 0, true) := by decide
/-- C22: idle is decided by the counter alone. -/
theorem test_press_start_c22 : display (step (before 255 true 1 true false)) = some (0, true, 0, true) := by decide
/-- C15: the tick is dropped and the timer wraps. -/
theorem test_press_stop_c15 : display (step (before 17 true 3 true false)) = some (255, false, 0, true) := by decide
/-- C17: scenario E; the timer is not cleared. -/
theorem test_press_stop_c17 : display (step (before 64 false 2 true false)) = some (255, false, 3, true) := by decide

/-- A row of table Q2 (program P3, overtime) before its edge. -/
def overtime (ph : BitVec 3) (fidx : BitVec 3) (bitIdx : BitVec 5) (dwellCnt : Nat) (sdata sclk latch : Bool) : State :=
  { State.resetWith vecParams with
    counter := 64, mode := 2, snapC := 64, ph := ph, fidx := fidx, bitIdx := bitIdx, dwellCnt := dwellCnt
    sdata := sdata, sclk := sclk, latch := latch, stim := [{ rst := false, btn := .low }] }

/-- The sequencer columns of table Q2. -/
structure Columns where
  ph : BitVec 3
  fidx : BitVec 3
  bitIdx : BitVec 5
  dwellCnt : Nat
  sdata : Bool
  sclk : Bool
  latch : Bool
  deriving DecidableEq, Repr

def columns (r : Result) : Option Columns :=
  match r with
  | .next t => some ⟨t.ph, t.fidx, t.bitIdx, t.dwellCnt, t.sdata, t.sclk, t.latch⟩
  | .fault _ => none
  | .refused _ => none

/-- Q2, edge 885. -/
theorem test_fetch_q2 :
    columns (step (overtime 0 7 31 0 true false true)) = some ⟨1, 0, 31, 0, true, false, true⟩ := by decide
/-- Q2, edge 886. -/
theorem test_latch_lo_q2 :
    columns (step (overtime 1 0 31 0 true false true)) = some ⟨2, 0, 0, 0, true, false, false⟩ := by decide
/-- Q2, edge 887: bit 0 of the red frame. -/
theorem test_data_q2 :
    columns (step (overtime 2 0 0 0 true false false)) = some ⟨3, 0, 0, 0, true, false, false⟩ := by decide
/-- Q2, edge 988: bit 0 of the blank frame. -/
theorem test_data_q2_blank :
    columns (step (overtime 2 1 0 2 true false false)) = some ⟨3, 1, 0, 2, false, false, false⟩ := by decide
/-- Q2, edge 888. -/
theorem test_clk_hi_q2 :
    columns (step (overtime 3 0 0 0 true false false)) = some ⟨4, 0, 0, 0, true, true, false⟩ := by decide
/-- Q2, edge 982: the end of the frame. -/
theorem test_clk_lo_q2 :
    columns (step (overtime 4 0 31 0 true true false)) = some ⟨5, 0, 31, 0, true, false, false⟩ := by decide
/-- Z3, edge 8, in the idle pass's registers of table Q2's form: the next bit. -/
theorem test_clk_lo_z3 :
    columns (step (overtime 4 0 1 0 true true false)) = some ⟨2, 0, 2, 0, true, false, false⟩ := by decide
/-- Q2, edge 1084: the dwell counter restarts. -/
theorem test_latch_hi_q2 :
    columns (step (overtime 5 1 31 2 true false false)) = some ⟨6, 1, 31, 0, true, false, true⟩ := by decide
/-- Q2, edge 986: the end of the first dwell. -/
theorem test_dwell_q2 :
    columns (step (overtime 6 0 31 2 true false true)) = some ⟨1, 1, 31, 2, true, false, true⟩ := by decide
/-- Q2, edge 1087: the end of the second dwell. -/
theorem test_dwell_q2_end :
    columns (step (overtime 6 1 31 2 true false true)) = some ⟨0, 1, 31, 2, true, false, true⟩ := by decide
/-- The example of R217. -/
theorem test_reserved_r217 :
    columns (step (overtime 7 1 3 1 true false true)) = some ⟨0, 1, 3, 1, true, false, true⟩ := by decide

/-- X2: a reset edge from the end state of P3; `btn` is ignored, floating or not (R270). -/
theorem test_reset_x2 :
    step { overtime 4 0 1 2 true true false with stim := [{ rst := true, btn := .floating }] } =
      .next { State.resetWith vecParams with edge := 1 } := by rfl

/-- The wire word a render operation leaves on the renderer's net. -/
def rendered (r : Result) : Option WireWord :=
  match r with
  | .next t => some t.frame.wire
  | .fault _ => none
  | .refused _ => none

/-- A running snapshot. -/
def running (c : Byte) (j : BitVec 3) : State :=
  { State.resetWith vecParams with mode := 1, snapC := c, fidx := j }

/-- F1. -/
theorem test_render_idle_f1 : rendered (exec .renderIdle (running 255 0)) = some 0x00FFFFFF := by decide
/-- T5: c = 0, j = 0 (scenario B). -/
theorem test_render_run_b : rendered (exec .renderRun (running 0 0)) = some 0xFF10EF80 := by decide
/-- T5: c = 46, j = 3. -/
theorem test_render_run_46 : rendered (exec .renderRun (running 46 3)) = some 0xFFFE0108 := by decide
/-- F2. -/
theorem test_render_over_f2 : rendered (exec .renderOver (running 64 0)) = some 0xFFFF00FF := by decide
/-- F3. -/
theorem test_render_over_f3 : rendered (exec .renderOver (running 64 1)) = some 0xFFFFFF00 := by decide
/-- F5. -/
theorem test_render_rsvd_f5 : rendered (exec .renderRsvd (running 0 0)) = some 0xFFFFFF00 := by decide

/-- T5, the seam between the halves: c = 31, j = 7 and c = 32, j = 0. -/
theorem test_frames_at_the_seam :
    (frameOf vecParams 1 31 7).wire = 0xFFF00F01 ∧ (frameOf vecParams 1 32 0).wire = 0xFFF80701 := by decide
/-- T2. -/
theorem test_mode_of :
    modeOf 0 = 1 ∧ modeOf 63 = 1 ∧ modeOf 64 = 2 ∧ modeOf 254 = 2 ∧ modeOf 255 = 0 := by decide
/-- Section 4's examples. -/
theorem test_bitrev32 : bitrev32 0xFF10EF80 = 0x01F708FF ∧ bitrev32 0x00FFFFFF = 0xFFFFFF00 := by
  decide +kernel
/-- `TW` and `DW` (R10): one bit for a period of 1, two for 3 and 4, three for 5. -/
theorem test_widths : ceilLog2 1 = 0 ∧ ceilLog2 2 = 1 ∧ ceilLog2 3 = 2 ∧ ceilLog2 4 = 2 ∧ ceilLog2 5 = 3 := by decide
/-- A table word is the first operation after reset: DATA drives bit 0 of the idle frame. -/
theorem test_table_word_runs :
    columns (step (State.reset.withFetchWord 8 2)) = some ⟨3, 0, 0, 0, true, false, false⟩ ∧
    decodeTableWord 8 2 = some .data := by decide

/-! ### Witnesses: for every statement with hypotheses, a state and operands that meet them -/

/-- Quiet for any number of edges, at the start of a frame of the idle pass. -/
def quietFrame : State := { State.resetWith vecParams with ph := 1 }

/-- Quiet for any number of edges, about to fetch with the given counter. -/
def quietFetch (c : Byte) : State := { State.resetWith vecParams with counter := c }

theorem quietFrame_quiet (n : Nat) : quietFrame.Quiet n := Quiet_of_no_stimulus rfl n
theorem quietFetch_quiet (c : Byte) (n : Nat) : (quietFetch c).Quiet n := Quiet_of_no_stimulus rfl n

theorem witness_EncodeThenDecode : (Instr.pressStop true).wf = true := by decide
theorem witness_DecodeThenEncode : decode (word .cev true 0b111) = .ok (.pressStart true) := by rfl
theorem witness_CevCodesNameControlOperations :
    (0b010#3 &&& 0b101 = 0b000) ∧ (0b011#3 &&& 0b101 = 0b001) ∧ (0b100#3 &&& 0b111 = 0b100) ∧
    (0b101#3 &&& 0b111 = 0b101) ∧ (0b111#3 &&& 0b110 = 0b110) := by decide

/-- The hypothesis of the six statements of the control operations: the button has a sample. -/
theorem witness_sample_low : (before 17 true 1 true true).sampleBtn = some false := by decide
theorem witness_sample_high :
    ({ before 17 true 1 true true with stim := [{ rst := false, btn := .high }] } : State).sampleBtn = some true := by
  decide
theorem witness_sample_unsettled : ∃ b, quietFrame.sampleBtn = some b := ⟨_, rfl⟩
theorem witness_NopKeepsDisplayState : (before 10 true 1 true true).sampleBtn = some false := by decide
theorem witness_ReleaseKeepsDisplayState : (before 5 true 1 false true).sampleBtn = some false := by decide
theorem witness_TickAdvancesRunningCounter : (before 63 true 3 false false).sampleBtn = some false := by decide
theorem witness_ReleaseTickAdvancesRunningCounter : (before 63 true 3 false true).sampleBtn = some false := by decide
theorem witness_PressStartBeginsCountdown :
    (before 255 false 3 true false).sampleBtn = some false ∧ (before 255 false 3 true false).press = true ∧
    (before 255 false 3 true false).counter = 255 := by decide
theorem witness_PressStopReturnsToIdle :
    (before 64 false 2 true false).sampleBtn = some false ∧ (before 64 false 2 true false).press = true ∧
    (before 64 false 2 true false).counter ≠ 255 := by decide
theorem witness_ControlOperationsRefuseFloatingButton :
    ({ quietFrame with stim := [{ rst := false, btn := .floating }] } : State).input.btn = .floating := by decide
theorem witness_PressDropsCoincidentTick : ∃ s c u v : State,
    s.DisplayInv ∧ s.press = true ∧ s.tickEvent = true ∧ exec s.controlOp s = .next c ∧
    exec (.tick true) s = .next u ∧
    exec (if u.counter = 255 then .pressStart true else .pressStop true) u = .next v :=
  ⟨before 63 true 3 true false, _, _, _, by decide, by decide, by decide, rfl, rfl, rfl⟩
theorem witness_PressDropsCoincidentTick_idle : ∃ s c u v : State, s.counter = 255 ∧
    s.DisplayInv ∧ s.press = true ∧ s.tickEvent = true ∧ exec s.controlOp s = .next c ∧
    exec (.tick true) s = .next u ∧
    exec (if u.counter = 255 then .pressStart true else .pressStop true) u = .next v :=
  ⟨before 255 false 3 true false, _, _, _, by decide, by decide, by decide, by decide, rfl, rfl, rfl⟩
theorem witness_PressDropsCoincidentTick_overtime : ∃ s c u v : State, s.counter = 64 ∧
    s.DisplayInv ∧ s.press = true ∧ s.tickEvent = true ∧ exec s.controlOp s = .next c ∧
    exec (.tick true) s = .next u ∧
    exec (if u.counter = 255 then .pressStart true else .pressStop true) u = .next v :=
  ⟨before 64 false 3 true false, _, _, _, by decide, by decide, by decide, by decide, rfl, rfl, rfl⟩

theorem witness_LatchLoLowersLatch : quietFrame.LinesInv ∧ quietFrame.ph = 0b001 := by decide
theorem witness_DataDrivesWireBit : ∃ s : State, ∃ f, f = frameOf s.params s.mode s.snapC s.fidx :=
  ⟨quietFrame, _, rfl⟩
theorem witness_RenderRunYieldsSweepFrame : ∃ f, f = frameOf vecParams 0b01 63 7 := ⟨_, rfl⟩
theorem witness_ModesPartitionTheCounter :
    (quietFetch 255).DisplayInv ∧ (before 63 true 3 false false).DisplayInv ∧ (overtime 0 7 31 0 true false true).DisplayInv := by
  decide
theorem witness_RunningPassMultiplexesRows : (63 : Byte).toNat ≤ 63 := by decide

theorem witness_ResetStateHoldsSpecValues : ∃ s u : State, u.input.rst = true ∧ step u = .next s :=
  ⟨_, { quietFrame with stim := [{ rst := true, btn := .low }] }, by decide, rfl⟩
theorem witness_HeldResetIsOneReset :
    ∀ k < 1 + 1, (({ quietFrame with stim := stimulus [{ r := true, b := false, n := 2 }] } : State).inputAt k).rst = true := by
  decide
theorem witness_ResetCommitsNothing : ∃ s t : State, s.input.rst = true ∧ step s = .next t :=
  ⟨{ quietFrame with stim := [{ rst := true, btn := .low }] }, _, by decide, rfl⟩

theorem witness_StepRunsTheSelectedOperations_reset : ∃ s t : State, s.input.rst = true ∧ exec .reset s = .next t :=
  ⟨{ quietFrame with stim := [{ rst := true, btn := .low }] }, _, by decide, rfl⟩
theorem witness_StepRunsTheSelectedOperations : ∃ s c q r : State, s.input.rst = false ∧
    exec (decodeCev (decide (s.counter = 255)) (cevBits (s.btnS2 ^^ s.btnPrev) s.btnS2
      (decide (s.tickCnt = s.params.tickPeriod - 1)))) s = .next c ∧
    exec (decodePh s.ph) s = .next q ∧ exec (decodeMode s.mode) s = .next r :=
  ⟨before 17 true 3 true false, _, _, _, by decide, rfl, rfl, rfl⟩
theorem witness_StepIsTheWholeBlockStep :
    (before 17 true 3 true false).input.rst = false ∧ (before 17 true 3 true false).sampleBtn = some false := by decide
theorem witness_StepIsTheWholeBlockStep_reset :
    ({ quietFrame with stim := [{ rst := true, btn := .low }] } : State).input.rst = true := by decide
theorem witness_StepStopsOnlyOnFloatingButton :
    ({ quietFrame with stim := [{ rst := false, btn := .floating }] } : State).input.rst = false ∧
    ({ quietFrame with stim := [{ rst := false, btn := .floating }] } : State).input.btn = .floating := by decide
/-- A next state, and DisplayState changed by the edge. -/
theorem witness_step : ∃ s t : State, s.input.rst = false ∧ step s = .next t ∧ t.counter ≠ s.counter :=
  ⟨before 17 true 3 true false, _, by decide, rfl, by decide⟩
theorem witness_ParametersNeverChange : ∃ s t : State, step s = .next t := ⟨before 17 true 3 true false, _, rfl⟩
theorem witness_DisplayStateHasOneWriter : ∃ s t : State,
    step s = .next t ∧ (t.counter ≠ s.counter ∨ t.running ≠ s.running) :=
  ⟨before 17 true 3 true false, _, rfl, by decide⟩
theorem witness_DisplayStateHasOneWriter_units : ∃ s q r : State,
    exec s.phaseOp s = .next q ∧ exec s.renderOp s = .next r := ⟨quietFrame, _, _, rfl, rfl⟩
theorem witness_LinesAreWrittenByTheirPhases : ∃ s t : State,
    s.input.rst = false ∧ step s = .next t ∧ s.ph ≠ 0b010 :=
  ⟨overtime 5 1 31 2 true false false, _, by decide, rfl, by decide⟩
theorem witness_ButtonReachesStateThroughSynchronizer : ∃ s t : State,
    s.input.rst = false ∧ s.sampleBtn = some false ∧ step s = .next t :=
  ⟨before 17 true 3 true false, _, by decide, by decide, rfl⟩
theorem witness_ButtonReachesStateThroughSynchronizer_two : ∃ (s t u : State) (v w : InputVector),
    v.rst = w.rst ∧ step (s.drive v) = .next t ∧ step (s.drive w) = .next u :=
  ⟨before 17 true 3 true false, _, _, { rst := false, btn := .low }, { rst := false, btn := .high }, rfl, rfl, rfl⟩
theorem witness_EverySampledRiseActsTwoEdgesLater :
    ∃ s : State, s.Quiet 3 ∧ s.btnS1 = false ∧ s.sampleBtn = some true :=
  ⟨{ quietFrame with btnS1 := false, stim := stimulus (Drive.hold 3) }, by decide, by decide, by decide⟩
theorem witness_HeldButtonStartsNothing :
    ∃ s : State, s.counter = 255 ∧ s.running = false ∧ s.btnS1 = true ∧ s.btnS2 = true ∧ s.btnPrev = true ∧
      ∀ k < 3, (s.inputAt k).rst = false ∧ (s.inputAt k).btn = .high :=
  ⟨{ quietFrame with stim := stimulus (Drive.hold 3) }, by decide⟩

theorem witness_TickTimerIsPeriodic : ∃ s : State, s.params.wf = true ∧ s.tickCnt = 0 ∧ s.Quiet 1 ∧
    ∀ k < 1, ∀ u, run k s = .next u → ¬ (u.press = true ∧ u.counter = 255) := by
  refine ⟨quietFrame, by decide, by decide, quietFrame_quiet 1, ?_⟩
  intro k hk u hu
  obtain rfl : k = 0 := by omega
  rw [run_zero] at hu
  injection hu with hu
  subst hu
  decide
theorem witness_CountdownLastsSixtyFourIntervals : ∃ s : State, s.params.wf = true ∧ s.counter = 0 ∧
    s.running = true ∧ s.tickCnt = 0 ∧ 64 ≤ 64 * s.params.tickPeriod ∧ s.Quiet 64 ∧ s.NoPress 64 :=
  ⟨{ State.resetWith { vecParams with tickPeriod := 1 } with
      counter := 0, running := true, stim := stimulus (Drive.hold 10 ++ Drive.free 60) }, by decide⟩
theorem witness_OvertimeStaysFrozen : ∃ s : State, s.counter = 64 ∧ s.running = false ∧ s.Quiet 5 ∧ s.NoPress 5 :=
  ⟨{ State.resetWith vecParams with counter := 64, stim := stimulus (Drive.free 5) }, by decide⟩

theorem witness_DataUsesTheSelectedRenderFunction : ∃ s : State, s.Quiet 1 ∧ s.ph = 0b010 :=
  ⟨overtime 2 0 0 0 true false false, by decide⟩
theorem witness_FrameIsStableWhileShifting : ∃ s t : State, step s = .next t ∧ s.input.rst = false ∧
    s.ph ≠ 0b000 ∧ s.ph ≠ 0b101 ∧ ¬ (s.ph = 0b110 ∧ s.dwellCnt ≥ s.params.dwellCycles - 1) :=
  ⟨overtime 4 0 31 0 true true false, _, rfl, by decide, by decide, by decide, by decide⟩
/-- A DWELL edge that still counts. -/
theorem witness_FrameIsStableWhileShifting_dwell : ∃ s t : State, s.ph = 0b110 ∧ step s = .next t ∧
    s.input.rst = false ∧ ¬ (s.ph = 0b110 ∧ s.dwellCnt ≥ s.params.dwellCycles - 1) :=
  ⟨overtime 6 0 31 1 true false true, _, by decide, rfl, by decide, by decide⟩
theorem witness_FrameTakesNinetyEightCycles : quietFrame.ph = 0b001 ∧ quietFrame.Quiet 98 :=
  ⟨by decide, quietFrame_quiet 98⟩
theorem witness_ChainCommitsTheFrame : quietFrame.ph = 0b001 ∧ quietFrame.sclk = false ∧ quietFrame.Quiet 98 :=
  ⟨by decide, by decide, quietFrame_quiet 98⟩
theorem witness_IdlePassTakesNinetyNineCycles :
    (quietFetch 255).ph = 0b000 ∧ (quietFetch 255).counter = 255 ∧ (quietFetch 255).Quiet 99 :=
  ⟨by decide, by decide, quietFetch_quiet 255 99⟩
theorem witness_RunningPassSendsEightFrames :
    (quietFetch 63).ph = 0b000 ∧ (quietFetch 63).counter.toNat ≤ 63 ∧ (quietFetch 63).Quiet 785 :=
  ⟨by decide, by decide, quietFetch_quiet 63 785⟩
theorem witness_OvertimePassSendsRedAndBlank :
    (quietFetch 64).ph = 0b000 ∧ 64 ≤ (quietFetch 64).counter.toNat ∧ (quietFetch 64).counter.toNat ≤ 254 ∧
    (quietFetch 64).params.wf = true ∧ 3 = (quietFetch 64).params.dwellCycles ∧ (quietFetch 64).Quiet (197 + 2 * 3) :=
  ⟨by decide, by decide, by decide, by decide, by decide, quietFetch_quiet 64 _⟩
theorem witness_PassIgnoresControlUnit : ∃ s u t v : State, SameSequencer s u ∧ s.counter ≠ u.counter ∧
    s.ph ≠ 0b000 ∧ s.input.rst = false ∧ u.input.rst = false ∧ step s = .next t ∧ step u = .next v :=
  ⟨overtime 6 1 31 2 true false true, { overtime 6 1 31 2 true false true with counter := 255, btnS1 := false },
    _, _, by decide, by decide, by decide, by decide, by decide, rfl, rfl⟩
theorem witness_FetchComesWithinOnePass : quietFrame.SequencerInv ∧
    quietFrame.Quiet (passLength quietFrame.params quietFrame.mode) ∧ quietFrame.params.wf = true :=
  ⟨by decide, quietFrame_quiet _, by decide⟩
/-- The first phase of a running and of an overtime pass, whose snapshots are 63 and 64. -/
def quietPass (m : BitVec 2) (c : Byte) (r : Bool) : State :=
  { State.resetWith vecParams with ph := 1, mode := m, snapC := c, snapR := r }
theorem witness_FetchComesWithinOnePass_run : (quietPass 1 63 true).SequencerInv ∧
    (quietPass 1 63 true).Quiet (passLength (quietPass 1 63 true).params (quietPass 1 63 true).mode) ∧
    (quietPass 1 63 true).params.wf = true :=
  ⟨by decide, Quiet_of_no_stimulus rfl _, by decide⟩
theorem witness_FetchComesWithinOnePass_over : (quietPass 2 64 false).SequencerInv ∧
    (quietPass 2 64 false).Quiet (passLength (quietPass 2 64 false).params (quietPass 2 64 false).mode) ∧
    (quietPass 2 64 false).params.wf = true :=
  ⟨by decide, Quiet_of_no_stimulus rfl _, by decide⟩
theorem witness_FirstCommitAfterResetIsIdleFrame :
    ∃ s : State, s = { State.resetWith vecParams with stim := [] } ∧ s.Quiet 99 :=
  ⟨_, rfl, Quiet_of_no_stimulus rfl 99⟩

theorem witness_StepKeepsDisplayStateReachable : ∃ s t : State, s.DisplayInv ∧ step s = .next t :=
  ⟨before 63 true 3 false false, _, by decide, rfl⟩
theorem witness_StepKeepsCountersInRange : ∃ s t : State, s.CountersInv ∧ step s = .next t :=
  ⟨before 63 true 3 false false, _, by decide, rfl⟩
theorem witness_StepKeepsCountersInTheirWidths : ∃ s t : State,
    s.params.wf = true ∧ s.WidthsInv ∧ step s = .next t :=
  ⟨before 63 true 3 false false, _, by decide, by decide, rfl⟩
theorem witness_StepKeepsSequencerInPass : ∃ s t : State, (s.DisplayInv ∧ s.SequencerInv) ∧ step s = .next t :=
  ⟨overtime 6 1 31 2 true false true, _, by decide, rfl⟩
theorem witness_StepKeepsLineLevels : ∃ s t : State, s.LinesInv ∧ step s = .next t :=
  ⟨overtime 6 1 31 2 true false true, _, by decide, rfl⟩
theorem witness_ResetStateMeetsInvariants : vecParams.wf = true := by decide

end Sys2Proof.Tests
end

/-!
The parameters and the two cycle counters: no edge changes the parameters (R33, R34), and both
counters stay within their registers (R10, R24, R31).
-/

namespace Sys2Proof

/-- `ceil(log2 n)` bits hold every value below n (R10). -/
theorem le_two_pow_ceilLog2 (n : Nat) : n ≤ 2 ^ ceilLog2 n := by
  unfold ceilLog2
  split
  · simpa
  · have : n - 1 < 2 ^ ((n - 1).log2 + 1) := Nat.lt_log2_self
    omega

theorem Params.tickPeriod_le_two_pow_tickWidth (p : Params) : p.tickPeriod ≤ 2 ^ p.tickWidth :=
  (le_two_pow_ceilLog2 _).trans (Nat.pow_le_pow_right Nat.two_pos (le_max_right _ _))

theorem Params.dwellCycles_le_two_pow_dwellWidth (p : Params) : p.dwellCycles ≤ 2 ^ p.dwellWidth :=
  (le_two_pow_ceilLog2 _).trans (Nat.pow_le_pow_right Nat.two_pos (le_max_right _ _))

end Sys2Proof

namespace Sys2Proof.Machine

/-- The timer counts on only below its compare match (R103). -/
theorem timerNext_cases (s : State) :
    s.timerNext = 0 ∨ (s.tickCnt < s.params.tickPeriod - 1 ∧ s.timerNext = s.tickCnt + 1) := by
  unfold State.timerNext
  split <;> omega

/-- The six control operations (R72). -/
theorem controlOp_cases (s : State) :
    (∃ l, s.controlOp = .nop l) ∨ (∃ l, s.controlOp = .tick l) ∨ s.controlOp = .release ∨
    s.controlOp = .releaseTick ∨ (∃ x, s.controlOp = .pressStart x) ∨
    (∃ x, s.controlOp = .pressStop x) := by
  unfold State.controlOp
  generalize s.idle = idle, s.cev = w
  revert idle w
  decide

theorem controlEdge_tickCnt {s c : State} {k : Byte} {r : Bool} {n : Nat}
    (h : controlEdge s k r n = .next c) : c.tickCnt = n := by
  obtain ⟨b, -, rfl⟩ := controlEdge_next.mp h
  rfl

/-- PRESS_START clears the timer; with every other control operation it goes on (R103, R105). -/
theorem exec_controlOp_tickCnt {s c : State} (h : exec s.controlOp s = .next c) :
    (∃ x, s.controlOp = .pressStart x ∧ c.tickCnt = 0) ∨ c.tickCnt = s.timerNext := by
  obtain ⟨_, hop⟩ | ⟨_, hop⟩ | hop | hop | ⟨x, hop⟩ | ⟨_, hop⟩ := controlOp_cases s <;>
    rw [hop] at h
  · exact .inr (controlEdge_tickCnt h) -- NOP
  · exact .inr (controlEdge_tickCnt h) -- TICK
  · exact .inr (controlEdge_tickCnt h) -- RELEASE
  · exact .inr (controlEdge_tickCnt h) -- RELEASE_TICK
  · exact .inl ⟨x, hop, controlEdge_tickCnt h⟩ -- PRESS_START
  · exact .inr (controlEdge_tickCnt h) -- PRESS_STOP

/-- A phase operation holds `dwell_cnt`, clears it (R212), or counts it up below the compare match
(R216). -/
theorem exec_phaseOp_dwellCnt {s q : State} (h : exec s.phaseOp s = .next q) :
    q.dwellCnt = s.dwellCnt ∨ q.dwellCnt = 0 ∨
      (s.dwellCnt < s.params.dwellCycles - 1 ∧ q.dwellCnt = s.dwellCnt + 1) := by
  obtain ⟨-, hop⟩ | ⟨-, hop⟩ | ⟨-, hop⟩ | ⟨-, hop⟩ | ⟨-, hop⟩ | ⟨-, hop⟩ | ⟨-, hop⟩ | ⟨-, hop⟩ :=
    phase_cases s <;> rw [hop] at h
  · cases h; exact .inl rfl -- FETCH
  · cases h; exact .inl rfl -- LATCH_LO
  · cases h; exact .inl rfl -- DATA
  · cases h; exact .inl rfl -- CLK_HI
  · simp only [exec, execClkLo] at h -- CLK_LO
    split at h <;> cases h <;> exact .inl rfl
  · simp only [exec, execLatchHi] at h -- LATCH_HI
    split_ifs at h <;> cases h
    · exact .inl rfl
    · exact .inl rfl
    · exact .inr (.inl rfl)
    · exact .inl rfl
  · simp only [exec, execDwell] at h -- DWELL
    split_ifs at h with hmatch <;> cases h
    · exact .inl rfl
    · exact .inl rfl
    · exact .inr (.inr ⟨Nat.lt_of_not_le hmatch, rfl⟩)
  · cases h; exact .inl rfl -- RESERVED_PH

/-- `tick_cnt` after a step: zero (reset, PRESS_START or the wrap), or counted up below the compare
match. -/
theorem step_tickCnt {s t : State} (h : step s = .next t) :
    t.tickCnt = 0 ∨ (s.tickCnt < s.params.tickPeriod - 1 ∧ t.tickCnt = s.tickCnt + 1) := by
  obtain ⟨-, rfl⟩ | ⟨-, b, c, q, -, hc, -, rfl⟩ := step_next_cases h
  · exact .inl rfl
  · obtain ⟨x, -, hcleared⟩ | hcounted := exec_controlOp_tickCnt hc
    · exact .inl hcleared
    · simpa [hcounted] using timerNext_cases s

/-- `dwell_cnt` after a step: held, zero, or counted up below the compare match. -/
theorem step_dwellCnt {s t : State} (h : step s = .next t) :
    t.dwellCnt = s.dwellCnt ∨ t.dwellCnt = 0 ∨
      (s.dwellCnt < s.params.dwellCycles - 1 ∧ t.dwellCnt = s.dwellCnt + 1) := by
  obtain ⟨-, rfl⟩ | ⟨-, b, c, q, -, -, hq, rfl⟩ := step_next_cases h
  · exact .inr (.inl rfl)
  · simpa using exec_phaseOp_dwellCnt hq

/-- Neither the reset nor the join of the units writes the parameters (R33). -/
theorem step_params {s t : State} (h : step s = .next t) : t.params = s.params := by
  obtain ⟨-, rfl⟩ | ⟨-, b, c, q, -, -, -, rfl⟩ := step_next_cases h
  · rfl
  · rfl

/-- Settles O34, by the two kinds of edge. -/
theorem parametersNeverChange : Obligations.ParametersNeverChange :=
  fun _ _ h => step_params h

/-- Settles O57: a counter that counts stays below its period, which its register can hold. -/
theorem stepKeepsCountersInTheirWidths : Obligations.StepKeepsCountersInTheirWidths := by
  intro s t _ ⟨htick, hdwell⟩ h
  have hTick := s.params.tickPeriod_le_two_pow_tickWidth
  have hDwell := s.params.dwellCycles_le_two_pow_dwellWidth
  unfold State.WidthsInv
  rw [step_params h]
  constructor
  · obtain hzero | ⟨hbelow, hcount⟩ := step_tickCnt h <;> omega
  · obtain hheld | hzero | ⟨hbelow, hcount⟩ := step_dwellCnt h <;> omega

end Sys2Proof.Machine

/-!
The state's invariants and its output lines: what an edge does to DisplayState, to the sequencer's
position in a pass, to the two cycle counters and to the three lines, and the state reset leaves
(spec/10_state.md).
-/

namespace Sys2Proof

theorem Params.wf_iff (p : Params) : p.wf = true ↔ 1 ≤ p.tickPeriod ∧ 1 ≤ p.dwellCycles := by
  simp [Params.wf]

/-- This hardware's parameters are successors, and so legal (R10). -/
theorem Config.params_wf : Config.params.wf = true := by
  simp [Params.wf_iff, Config.params]

end Sys2Proof

namespace Sys2Proof.Machine

/-! ### What a phase edge does -/

/-- Everything a phase operation can leave, one constructor per branch of R183 to R187, R211, R212,
R216 and R217. -/
inductive PhaseEdge (s : State) : State → Prop where
  | fetch (hph : s.ph = Ph.fetch) :
      PhaseEdge s { s with
        snapC := s.counter, snapR := s.running, mode := modeOf s.counter, fidx := 0, ph := Ph.latchLo }
  | latchLo (hph : s.ph = Ph.latchLo) :
      PhaseEdge s { s with latch := false, bitIdx := 0, ph := Ph.data }
  | data (hph : s.ph = Ph.data) :
      PhaseEdge s { s with
        sdata := s.currentFrame.wire.getLsbD s.bitIdx.toNat, ph := Ph.clkHi }
  | clkHi (hph : s.ph = Ph.clkHi) : PhaseEdge s { s with sclk := true, ph := Ph.clkLo }
  | lastBit (hph : s.ph = Ph.clkLo) (hbit : s.bitIdx = 31) :
      PhaseEdge s { s with sclk := false, ph := Ph.latchHi }
  | nextBit (hph : s.ph = Ph.clkLo) (hbit : s.bitIdx ≠ 31) :
      PhaseEdge s { s with sclk := false, bitIdx := s.bitIdx + 1, ph := Ph.data }
  | lastRow (hph : s.ph = Ph.latchHi) (hmode : s.mode = Mode.run) (hfidx : s.fidx = 7) :
      PhaseEdge s { s with latch := true, ph := Ph.fetch }
  | nextRow (hph : s.ph = Ph.latchHi) (hmode : s.mode = Mode.run) (hfidx : s.fidx ≠ 7) :
      PhaseEdge s { s with latch := true, fidx := s.fidx + 1, ph := Ph.latchLo }
  | startDwell (hph : s.ph = Ph.latchHi) (hmode : s.mode = Mode.over) :
      PhaseEdge s { s with latch := true, dwellCnt := 0, ph := Ph.dwell }
  | endPass (hph : s.ph = Ph.latchHi) (hrun : s.mode ≠ Mode.run) (hover : s.mode ≠ Mode.over) :
      PhaseEdge s { s with latch := true, ph := Ph.fetch }
  | endRedDwell (hph : s.ph = Ph.dwell) (hcnt : s.dwellCnt ≥ s.params.dwellCycles - 1)
      (hfidx : s.fidx = 0) : PhaseEdge s { s with fidx := 1, ph := Ph.latchLo }
  | endBlankDwell (hph : s.ph = Ph.dwell) (hcnt : s.dwellCnt ≥ s.params.dwellCycles - 1)
      (hfidx : s.fidx ≠ 0) : PhaseEdge s { s with ph := Ph.fetch }
  | countDwell (hph : s.ph = Ph.dwell) (hcnt : ¬ s.dwellCnt ≥ s.params.dwellCycles - 1) :
      PhaseEdge s { s with dwellCnt := s.dwellCnt + 1 }
  | reserved (hph : s.ph = Ph.reserved) : PhaseEdge s { s with ph := Ph.fetch }

/-- Ties `PhaseEdge` to the model: it holds of whatever the selected phase operation answers. -/
theorem phaseEdge_of_exec {s q : State} (h : exec s.phaseOp s = .next q) : PhaseEdge s q := by
  obtain ⟨hph, hop⟩ | ⟨hph, hop⟩ | ⟨hph, hop⟩ | ⟨hph, hop⟩ | ⟨hph, hop⟩ | ⟨hph, hop⟩ | ⟨hph, hop⟩ |
    ⟨hph, hop⟩ := phase_cases s <;> rw [hop] at h
  · cases h; exact .fetch hph
  · cases h; exact .latchLo hph
  · cases h; exact .data hph
  · cases h; exact .clkHi hph
  · simp only [exec, execClkLo] at h
    split_ifs at h with hbit <;> cases h
    · exact .lastBit hph hbit
    · exact .nextBit hph hbit
  · simp only [exec, execLatchHi] at h
    split_ifs at h with hrun hfidx hover <;> cases h
    · exact .lastRow hph hrun hfidx
    · exact .nextRow hph hrun hfidx
    · exact .startDwell hph hover
    · exact .endPass hph hrun hover
  · simp only [exec, execDwell] at h
    split_ifs at h with hcnt hfidx <;> cases h
    · exact .endRedDwell hph hcnt hfidx
    · exact .endBlankDwell hph hcnt hfidx
    · exact .countDwell hph hcnt
  · cases h; exact .reserved hph

/-! ### DisplayState (R115) -/

/-- A control edge leaves the DisplayState it is given. -/
theorem controlEdge_displayInv {s c : State} {k : Byte} {r : Bool} {n : Nat}
    (hkr : DisplayReachable k r) (h : controlEdge s k r n = .next c) : c.DisplayInv := by
  obtain ⟨b, -, rfl⟩ := controlEdge_next.mp h
  exact hkr

/-- A tick counts a running counter up to 63, and from 63 to overtime's `(64, 0)`; it leaves the
frozen states (R108). -/
theorem ticked_displayReachable {s : State} (h : s.DisplayInv) :
    DisplayReachable s.tickedCounter s.tickedRunning := by
  have count : ∀ c : Byte, c ≤ 63 → DisplayReachable (c + 1) (runningAfterTick (c + 1) true) := by
    decide
  obtain ⟨hc, hr⟩ | ⟨hc, hr⟩ | ⟨hc, hr⟩ := h
  · exact .inl (by simp [State.tickedCounter, State.tickedRunning, hc, hr])
  · simpa [State.tickedCounter, State.tickedRunning, hr] using count s.counter hc
  · exact .inr (.inr (by simp [State.tickedCounter, State.tickedRunning, hc, hr]))

theorem exec_controlOp_displayInv {s c : State} (hs : s.DisplayInv)
    (h : exec s.controlOp s = .next c) : c.DisplayInv := by
  obtain ⟨_, hop⟩ | ⟨_, hop⟩ | hop | hop | ⟨_, hop⟩ | ⟨_, hop⟩ := controlOp_cases s <;>
    rw [hop] at h
  · exact controlEdge_displayInv hs h -- NOP
  · exact controlEdge_displayInv (ticked_displayReachable hs) h -- TICK
  · exact controlEdge_displayInv hs h -- RELEASE
  · exact controlEdge_displayInv (ticked_displayReachable hs) h -- RELEASE_TICK
  · exact controlEdge_displayInv (by decide) h -- PRESS_START
  · exact controlEdge_displayInv (by decide) h -- PRESS_STOP

theorem step_displayInv {s t : State} (hs : s.DisplayInv) (h : step s = .next t) :
    t.DisplayInv := by
  obtain ⟨-, rfl⟩ | ⟨-, b, c, q, -, hc, -, rfl⟩ := step_next_cases h
  · exact .inl ⟨rfl, rfl⟩
  · have hdisplay := exec_controlOp_displayInv hs hc
    exact hdisplay

/-! ### The sequencer's position (R37, R210) -/

/-- No counter value selects the reserved mode (R140). -/
theorem modeOf_ne_reserved (c : Byte) : modeOf c ≠ Mode.reserved := by
  unfold modeOf
  split_ifs <;> decide

/-- Outside FETCH the mode and the snapshot are held, so what is left to check is the frame index and
the phase. -/
theorem SequencerInv_of_same_snapshot {s q : State} (hs : s.SequencerInv)
    (hsnap : q.mode = s.mode ∧ q.snapC = s.snapC ∧ q.snapR = s.snapR)
    (hfidx : q.fidx = s.fidx ∨ s.mode = Mode.run ∨ (s.mode = Mode.over ∧ q.fidx = 1))
    (hph : q.ph ≠ Ph.reserved) (hdwell : q.ph = Ph.dwell → s.mode = Mode.over) :
    q.SequencerInv := by
  obtain ⟨-, hres, hmode, hreach, hidle, hover, -⟩ := hs
  obtain ⟨hm, hc, hr⟩ := hsnap
  unfold State.SequencerInv
  rw [hm, hc, hr]
  obtain ⟨hidle', hover'⟩ : (s.mode = Mode.idle → q.fidx = 0) ∧
      (s.mode = Mode.over → q.fidx = 0 ∨ q.fidx = 1) := by
    obtain hheld | hrun | ⟨hov, hone⟩ := hfidx
    · rw [hheld]; exact ⟨hidle, hover⟩
    · simp [hrun]
    · simp [hov, hone]
  exact ⟨hph, hres, hmode, hreach, hidle', hover', hdwell⟩

/-- A phase edge keeps the sequencer at a position of a pass. The cases that matter: FETCH, where the
reachable DisplayState becomes the snapshot, and the three edges that write `fidx` or start a dwell. -/
theorem PhaseEdge.sequencerInv {s q : State} (h : PhaseEdge s q) (hd : s.DisplayInv)
    (hs : s.SequencerInv) : q.SequencerInv := by
  have hdwell : s.ph = Ph.dwell → s.mode = Mode.over := by
    obtain ⟨-, -, -, -, -, -, hdwell⟩ := hs
    exact hdwell
  cases h with
  | fetch =>
    exact ⟨by simp, modeOf_ne_reserved _, rfl, hd, fun _ => rfl, fun _ => .inl rfl, by simp⟩
  | nextRow _ hmode =>
    exact SequencerInv_of_same_snapshot hs ⟨rfl, rfl, rfl⟩ (.inr (.inl hmode)) (by simp) (by simp)
  | startDwell _ hmode =>
    exact SequencerInv_of_same_snapshot hs ⟨rfl, rfl, rfl⟩ (.inl rfl) (by simp) fun _ => hmode
  | endRedDwell hph =>
    exact SequencerInv_of_same_snapshot hs ⟨rfl, rfl, rfl⟩ (.inr (.inr ⟨hdwell hph, rfl⟩)) (by simp)
      (by simp)
  | countDwell hph =>
    exact SequencerInv_of_same_snapshot hs ⟨rfl, rfl, rfl⟩ (.inl rfl) (by simp [hph]) hdwell
  | latchLo | data | clkHi | lastBit | nextBit | lastRow | endPass | endBlankDwell | reserved =>
    exact SequencerInv_of_same_snapshot hs ⟨rfl, rfl, rfl⟩ (.inl rfl) (by simp) (by simp)

theorem resetWith_sequencerInv (p : Params) : (State.resetWith p).SequencerInv := by
  simp [State.SequencerInv, DisplayReachable, modeOf]

/-- Settles O58: DisplayState is kept by the control operation, and the sequencer's position by the
phase operation, which reads DisplayState in FETCH alone. -/
theorem stepKeepsSequencerInPass : Obligations.StepKeepsSequencerInPass := by
  rintro s t ⟨hd, hs⟩ h
  refine ⟨step_displayInv hd h, ?_⟩
  obtain ⟨-, rfl⟩ | ⟨-, b, c, q, -, -, hq, rfl⟩ := step_next_cases h
  · exact resetWith_sequencerInv s.params
  · exact (phaseEdge_of_exec hq).sequencerInv hd hs

/-! ### The output lines (R32) -/

/-- R32's table of writers: each branch writes the lines its phase names, and no other. -/
theorem PhaseEdge.lines {s q : State} (h : PhaseEdge s q) :
    (s.ph ≠ Ph.data → q.sdata = s.sdata) ∧
    q.sclk = (if s.ph = Ph.clkHi then true else if s.ph = Ph.clkLo then false else s.sclk) ∧
    q.latch = (if s.ph = Ph.latchHi then true else if s.ph = Ph.latchLo then false else s.latch) := by
  cases h <;> simp [*]

/-- Settles O36: the reset lowers the lines, and at every other edge the phase operation alone writes
them. -/
theorem linesAreWrittenByTheirPhases : Obligations.LinesAreWrittenByTheirPhases := by
  intro s t h
  obtain ⟨hrst, rfl⟩ | ⟨hrst, b, c, q, -, -, hq, rfl⟩ := step_next_cases h
  · simp [hrst]
  · simpa [hrst] using (phaseEdge_of_exec hq).lines

/-! ### The cycle counters (R24, R31) -/

/-- Settles O56: a counter that counts was below its compare match, and 0 is below a legal period. -/
theorem stepKeepsCountersInRange : Obligations.StepKeepsCountersInRange := by
  intro s t ⟨hwf, htick, hdwell⟩ h
  obtain ⟨hperiod, hcycles⟩ := s.params.wf_iff.mp hwf
  unfold State.CountersInv
  rw [step_params h]
  refine ⟨hwf, ?_, ?_⟩
  · obtain hzero | ⟨hbelow, hcount⟩ := step_tickCnt h <;> omega
  · obtain hheld | hzero | ⟨hbelow, hcount⟩ := step_dwellCnt h <;> omega

/-! ### The reset state (R36) -/

/-- Settles O28: a reset edge leaves `resetRegisters`, whose sixteen registers are those of
`resetWith`. -/
theorem resetStateHoldsSpecValues : Obligations.ResetStateHoldsSpecValues := by
  rintro p s u (rfl | rfl | ⟨hrst, hstep⟩)
  · simp
  · simp [State.reset]
  · rw [step_of_reset hrst] at hstep
    cases hstep
    simp

theorem resetWith_countersInv {p : Params} (h : p.wf = true) : (State.resetWith p).CountersInv :=
  ⟨h, p.wf_iff.mp h⟩

theorem resetWith_widthsInv (p : Params) : (State.resetWith p).WidthsInv :=
  ⟨Nat.two_pow_pos _, Nat.two_pow_pos _⟩

theorem resetWith_linesInv (p : Params) : (State.resetWith p).LinesInv := by
  simp [State.LinesInv]

/-- Settles O60: each invariant at the reset values; only the counters' needs legal parameters. -/
theorem resetStateMeetsInvariants : Obligations.ResetStateMeetsInvariants := by
  have meets {p : Params} (h : p.wf = true) : (State.resetWith p).DisplayInv ∧
      (State.resetWith p).CountersInv ∧ (State.resetWith p).WidthsInv ∧
      (State.resetWith p).SequencerInv ∧ (State.resetWith p).LinesInv :=
    ⟨.inl ⟨rfl, rfl⟩, resetWith_countersInv h, resetWith_widthsInv p, resetWith_sequencerInv p,
      resetWith_linesInv p⟩
  rintro p s (⟨h, rfl⟩ | rfl)
  · exact meets h
  · exact meets Config.params_wf

end Sys2Proof.Machine

/-!
The code spaces (spec/30_encoding.md R70 to R75, R80): which words decode, the round trips of the
encoder, and the operations an edge selects.
-/

namespace Sys2Proof

/-! ### The words of each space -/

theorem CodeWord.wf_iff (w : CodeWord) : w.wf = true ↔ w.bits.toNat < 2 ^ w.space.width := by
  simp [CodeWord.wf]

/-- A word as wide as the space, right aligned in a byte, is legal (R80). -/
theorem CodeWord.wf_setWidth {sp : CodeSpace} {n : Nat} (idle : Bool) (v : BitVec n)
    (hn : sp.width = n) : CodeWord.wf { space := sp, idle := idle, bits := v.setWidth 8 } = true := by
  rw [CodeWord.wf_iff, hn, BitVec.toNat_setWidth]
  exact (Nat.mod_le _ _).trans_lt v.isLt

/-- A byte below `2 ^ n` is an `n`-bit word, right aligned (R80). -/
theorem exists_eq_setWidth_of_toNat_lt {n : Nat} {b : Byte} (h : b.toNat < 2 ^ n) :
    ∃ v : BitVec n, b = v.setWidth 8 := by
  refine ⟨b.setWidth n, BitVec.eq_of_toNat_eq ?_⟩
  rw [BitVec.toNat_setWidth, BitVec.toNat_setWidth, Nat.mod_eq_of_lt h, Nat.mod_eq_of_lt b.isLt]

/-- A word too wide for its space names no operation. -/
theorem CodeWord.wf_of_decode {w : CodeWord} {i : Instr} (h : decode w = .ok i) : w.wf = true := by
  unfold decode at h
  split at h
  · assumption
  · cases h

@[simp] theorem decode_rst (idle : Bool) (v : BitVec 1) :
    decode { space := .rst, idle := idle, bits := v.setWidth 8 } = decodeRst v := by
  simp [decode, CodeWord.wf_setWidth (sp := .rst) idle v rfl]

@[simp] theorem decode_cev (idle : Bool) (v : BitVec 3) :
    decode { space := .cev, idle := idle, bits := v.setWidth 8 } = .ok (decodeCev idle v) := by
  simp [decode, CodeWord.wf_setWidth (sp := .cev) idle v rfl]

@[simp] theorem decode_ph (idle : Bool) (v : BitVec 3) :
    decode { space := .ph, idle := idle, bits := v.setWidth 8 } = .ok (decodePh v) := by
  simp [decode, CodeWord.wf_setWidth (sp := .ph) idle v rfl]

@[simp] theorem decode_mode (idle : Bool) (v : BitVec 2) :
    decode { space := .mode, idle := idle, bits := v.setWidth 8 } = .ok (decodeMode v) := by
  simp [decode, CodeWord.wf_setWidth (sp := .mode) idle v rfl]

/-- Of the two RST words, only 1 names an operation (R73). -/
theorem decodeRst_eq_ok {v : BitVec 1} {i : Instr} : decodeRst v = .ok i ↔ v = 1#1 ∧ i = .reset := by
  unfold decodeRst
  split <;> simp [*, eq_comm]

/-- Settles O1: the sixteen pairs of a CEV word and a second selector. -/
theorem cevCodesNameControlOperations : Obligations.CevCodesNameControlOperations := by
  unfold Obligations.CevCodesNameControlOperations
  decide

/-- Settles O2: each word of the three tables, decoded. -/
theorem rstPhModeWordsDecode : Obligations.RstPhModeWordsDecode := by
  unfold Obligations.RstPhModeWordsDecode
  exact ⟨rfl, rfl, by decide⟩

/-! ### Round trips -/

theorem decode_encode (i : Instr) : decode (encode i) = .ok i := by
  cases i with
  | nop x | tick x | pressStart x | pressStop x => cases x <;> rfl
  | reset | release | releaseTick => rfl
  | fetch | latchLo | data | clkHi | clkLo | latchHi | dwell | reservedPh => rfl
  | renderIdle | renderRun | renderOver | renderRsvd => rfl

/-- Settles O3. -/
theorem encodeThenDecode : Obligations.EncodeThenDecode :=
  fun i _ => decode_encode i

/-- The second selector comes back for the two presses, which are the operations that read it (R72). -/
theorem encode_decodeCev (idle : Bool) (v : BitVec 3) :
    (encode (decodeCev idle v)).space = .cev ∧ (encode (decodeCev idle v)).bits = v.setWidth 8 ∧
    ∀ x, decodeCev idle v = .pressStart x ∨ decodeCev idle v = .pressStop x →
      (encode (decodeCev idle v)).idle = idle := by
  revert idle v
  decide

theorem encode_decodePh (v : BitVec 3) :
    encode (decodePh v) = { space := .ph, idle := false, bits := v.setWidth 8 } := by
  revert v
  decide

theorem encode_decodeMode (v : BitVec 2) :
    encode (decodeMode v) = { space := .mode, idle := false, bits := v.setWidth 8 } := by
  revert v
  decide

/-- Outside the CEV space the second selector is clear and no operation is a press, so the space and
the bits are all there is to give back. -/
theorem encode_agrees_of_space_ne_cev {sp : CodeSpace} {b : Byte} {i : Instr} (idle : Bool)
    (hsp : sp ≠ .cev) (h : encode i = { space := sp, idle := false, bits := b }) :
    (encode i).space = sp ∧ (encode i).bits = b ∧
    ∀ x, i = .pressStart x ∨ i = .pressStop x → (encode i).idle = idle := by
  refine ⟨by rw [h], by rw [h], fun x hpress => absurd ?_ hsp⟩
  have hcev : (encode i).space = .cev := by obtain rfl | rfl := hpress <;> rfl
  rw [← hcev, h]

/-- Settles O4, by the space: the bits are a word of its width, whose round trip is that space's. -/
theorem decodeThenEncode : Obligations.DecodeThenEncode := by
  rintro ⟨sp, idle, bits⟩ i h
  have hwf := (CodeWord.wf_iff _).mp (CodeWord.wf_of_decode h)
  cases sp with
  | rst =>
    obtain ⟨v, rfl⟩ := exists_eq_setWidth_of_toNat_lt (n := 1) hwf
    obtain ⟨rfl, rfl⟩ := decodeRst_eq_ok.mp ((decode_rst idle v).symm.trans h)
    exact encode_agrees_of_space_ne_cev idle (by simp) rfl
  | cev =>
    obtain ⟨v, rfl⟩ := exists_eq_setWidth_of_toNat_lt (n := 3) hwf
    cases (decode_cev idle v).symm.trans h
    exact encode_decodeCev idle v
  | ph =>
    obtain ⟨v, rfl⟩ := exists_eq_setWidth_of_toNat_lt (n := 3) hwf
    cases (decode_ph idle v).symm.trans h
    exact encode_agrees_of_space_ne_cev idle (by simp) (encode_decodePh v)
  | mode =>
    obtain ⟨v, rfl⟩ := exists_eq_setWidth_of_toNat_lt (n := 2) hwf
    cases (decode_mode idle v).symm.trans h
    exact encode_agrees_of_space_ne_cev idle (by simp) (encode_decodeMode v)

/-- Settles O5: a word of its width is decoded by its space's table, which is total but for RST. -/
theorem everyCodeWordOfItsWidthDecodes : Obligations.EveryCodeWordOfItsWidthDecodes := by
  rintro ⟨sp, idle, bits⟩
  constructor
  · rintro ⟨i, h⟩
    refine ⟨(CodeWord.wf_iff _).mp (CodeWord.wf_of_decode h), ?_⟩
    rintro ⟨rfl, rfl⟩
    cases h
  · rintro ⟨hwf, hne⟩
    cases sp with
    | rst =>
      obtain ⟨v, rfl⟩ := exists_eq_setWidth_of_toNat_lt (n := 1) hwf
      obtain rfl | rfl := v.eq_zero_or_eq_one
      · exact absurd ⟨rfl, rfl⟩ hne
      · exact ⟨.reset, rfl⟩
    | cev =>
      obtain ⟨v, rfl⟩ := exists_eq_setWidth_of_toNat_lt (n := 3) hwf
      exact ⟨_, decode_cev idle v⟩
    | ph =>
      obtain ⟨v, rfl⟩ := exists_eq_setWidth_of_toNat_lt (n := 3) hwf
      exact ⟨_, decode_ph idle v⟩
    | mode =>
      obtain ⟨v, rfl⟩ := exists_eq_setWidth_of_toNat_lt (n := 2) hwf
      exact ⟨_, decode_mode idle v⟩

end Sys2Proof

namespace Sys2Proof.Machine

/-! ### The operations an edge selects -/

/-- A press is a rise of the sampled level (R101). -/
theorem press_iff (s : State) : s.press = true ↔ s.btnS2 = true ∧ s.btnPrev = false := by
  unfold State.press State.edgeEvent
  cases s.btnS2 <;> simp

/-- A release is a fall of the sampled level (R101). -/
theorem releaseEvent_iff (s : State) :
    s.releaseEvent = true ↔ s.btnS2 = false ∧ s.btnPrev = true := by
  unfold State.releaseEvent State.edgeEvent
  cases s.btnS2 <;> simp

/-- The control operation by the events, in their precedence (R102): the eight CEV words with both
values of the second selector. -/
theorem controlOp_eq (s : State) :
    s.controlOp =
      if s.press then (if s.idle then .pressStart s.tickEvent else .pressStop s.tickEvent)
      else if s.tickEvent then (if s.releaseEvent then .releaseTick else .tick s.btnS2)
      else if s.releaseEvent then .release
      else .nop s.btnS2 := by
  unfold State.controlOp State.cev State.press State.releaseEvent
  generalize s.idle = idle, s.edgeEvent = e, s.btnS2 = l, s.tickEvent = x
  revert idle e l x
  decide

/-- Settles O6: the precedence among the events, each read from the registers. -/
theorem controlOperationByPrecedence : Obligations.ControlOperationByPrecedence := by
  intro s
  rw [controlOp_eq]
  simp only [press_iff, releaseEvent_iff, State.idle, State.tickEvent, decide_eq_true_eq]

/-- At an edge without reset and with a valid `btn`, the control and the phase operation have next
states, and the step joins them (R226, R274). -/
theorem step_of_quiet {s : State} (h : s.Quiet 1) :
    ∃ c q, exec s.controlOp s = .next c ∧ exec s.phaseOp s = .next q ∧
      step s = .next (joinUnits s c q { s with frame := s.currentFrame }).advance := by
  obtain ⟨hrst, hbtn⟩ := h 0 Nat.one_pos
  obtain ⟨b, hb⟩ := Option.isSome_iff_exists.mp ((sampleBtn_isSome_iff s).mpr hbtn)
  obtain ⟨c, r, n, hc⟩ := exec_controlOp_of_sample hb
  obtain ⟨q, hq⟩ := exec_phaseOp_next s
  exact ⟨_, q, hc, hq, step_of_units hrst hc hq⟩

theorem phaseOp_of_data {s : State} (h : s.ph = Ph.data) : s.phaseOp = .data := by
  simp [State.phaseOp, decodePh, h]

/-- Settles O45: the DATA operation and the selected render operation read the same frame, the one
being transmitted. -/
theorem dataUsesTheSelectedRenderFunction : Obligations.DataUsesTheSelectedRenderFunction := by
  intro s hquiet hph
  obtain ⟨c, q, -, hq, hstep⟩ := step_of_quiet hquiet
  rw [phaseOp_of_data hph] at hq
  cases hq
  exact ⟨_, _, exec_renderOp s, hstep, rfl, rfl, rfl⟩

end Sys2Proof.Machine

/-!
The control unit (spec/40_control.md): the result of each control operation, the control unit's part
of an edge (R113), and what runs of edges without reset do to the timer and to DisplayState.
-/

namespace Sys2Proof.Machine

/-! ### The control operations (R104 to R109) -/

/-- R108's increment on the naturals. -/
theorem tickedCounter_eq (s : State) :
    s.tickedCounter =
      if s.running = true then BitVec.ofNat 8 ((s.counter.toNat + 1) % 256) else s.counter := by
  have hinc : s.counter + 1 = BitVec.ofNat 8 ((s.counter.toNat + 1) % 256) :=
    BitVec.eq_of_toNat_eq (by simp)
  rw [State.tickedCounter, hinc]

/-- R108's clearing of the flag, on the naturals. -/
theorem tickedRunning_eq (s : State) :
    s.tickedRunning =
      if s.running = true ∧ (s.counter.toNat + 1) % 256 > 63 then false else s.running := by
  unfold State.tickedRunning runningAfterTick
  cases s.running <;> simp [BitVec.lt_def]

/-- The result of TICK and of RELEASE_TICK (R108, R109). -/
theorem tickEdge_of_sample {s : State} {b : Bool} (h : s.sampleBtn = some b) :
    controlEdge s s.tickedCounter s.tickedRunning s.timerNext = .next { s with
      counter := if s.running = true then BitVec.ofNat 8 ((s.counter.toNat + 1) % 256) else s.counter
      running := if s.running = true ∧ (s.counter.toNat + 1) % 256 > 63 then false else s.running
      tickCnt := if s.tickCnt ≥ s.params.tickPeriod - 1 then 0 else s.tickCnt + 1
      btnS1 := b, btnS2 := s.btnS1, btnPrev := s.btnS2 } := by
  rw [controlEdge_of_sample h, tickedCounter_eq, tickedRunning_eq, State.timerNext]

theorem controlEdge_display {s c : State} {k : Byte} {r : Bool} {n : Nat}
    (h : controlEdge s k r n = .next c) : c.counter = k ∧ c.running = r := by
  obtain ⟨b, -, rfl⟩ := controlEdge_next.mp h
  exact ⟨rfl, rfl⟩

/-- The operation of a press, by DisplayState alone (R105, R106). -/
theorem controlOp_of_press {s : State} (h : s.press = true) :
    s.controlOp = if s.counter = 255 then .pressStart s.tickEvent else .pressStop s.tickEvent := by
  simp [controlOp_eq, h, State.idle]

/-- Settles O7: a control edge that is given DisplayState as it is. -/
theorem nopKeepsDisplayState : Obligations.NopKeepsDisplayState :=
  fun l _ _ hb => ⟨by decide +revert, controlEdge_of_sample hb _ _ _⟩

/-- Settles O8: the same edge as NOP's. -/
theorem releaseKeepsDisplayState : Obligations.ReleaseKeepsDisplayState :=
  fun _ _ hb => ⟨by decide, controlEdge_of_sample hb _ _ _⟩

/-- Settles O9: a control edge that is given the ticked DisplayState. -/
theorem tickAdvancesRunningCounter : Obligations.TickAdvancesRunningCounter :=
  fun l _ _ hb => ⟨by decide +revert, tickEdge_of_sample hb⟩

/-- Settles O10: the same edge as TICK's. -/
theorem releaseTickAdvancesRunningCounter : Obligations.ReleaseTickAdvancesRunningCounter :=
  fun _ _ hb => ⟨by decide, tickEdge_of_sample hb⟩

/-- Settles O11: at counter 255 every press selects the operation that writes `(0, 1)`. -/
theorem pressStartBeginsCountdown : Obligations.PressStartBeginsCountdown := by
  refine fun t b s hb => ⟨by decide +revert, fun hpress hidle => ?_, controlEdge_of_sample hb _ _ _⟩
  rw [controlOp_of_press hpress, if_pos hidle]

/-- Settles O12: at every other counter a press selects the operation that writes `(255, 0)`. -/
theorem pressStopReturnsToIdle : Obligations.PressStopReturnsToIdle := by
  refine fun t b s hb => ⟨by decide +revert, fun hpress hidle => ?_, controlEdge_of_sample hb _ _ _⟩
  rw [controlOp_of_press hpress, if_neg hidle]

/-- Settles O55: a reset leaves `(255, 0)`, and each control operation keeps the set S. -/
theorem stepKeepsDisplayStateReachable : Obligations.StepKeepsDisplayStateReachable :=
  fun _ _ hs h => step_displayInv hs h

/-! ### A press with a coincident tick (R110) -/

/-- The two press operations leave a DisplayState that depends on the selector alone. -/
theorem exec_press_display {s c : State} {k : Byte} {x : Bool}
    (h : exec (if k = 255 then .pressStart x else .pressStop x) s = .next c) :
    c.counter = (if k = 255 then 0 else 255) ∧ c.running = decide (k = 255) := by
  by_cases hk : k = 255 <;> simp only [hk, if_true, if_false, decide_true, decide_false] at h ⊢
  · exact controlEdge_display h
  · exact controlEdge_display h

/-- In the set S of R115 a tick neither leaves idle nor reaches it. -/
theorem tickedCounter_eq_255_iff {s : State} (h : s.DisplayInv) :
    s.tickedCounter = 255 ↔ s.counter = 255 := by
  have count : ∀ c : Byte, c ≤ 63 → (c + 1 = 255 ↔ c = 255) := by decide
  obtain ⟨-, hr⟩ | ⟨hc, hr⟩ | ⟨-, hr⟩ := h
  · simp [State.tickedCounter, hr]
  · simpa [State.tickedCounter, hr] using count s.counter hc
  · simp [State.tickedCounter, hr]

/-- Settles O14: the tick does not change which press operation is selected, and what that leaves
depends on nothing else. -/
theorem pressDropsCoincidentTick : Obligations.PressDropsCoincidentTick := by
  intro s c u v hinv hpress _ hc hu hv
  rw [controlOp_of_press hpress] at hc
  obtain ⟨b, -, rfl⟩ := controlEdge_next.mp hu
  obtain ⟨hcc, hcr⟩ := exec_press_display hc
  obtain ⟨hvc, hvr⟩ := exec_press_display hv
  simp only [tickedCounter_eq_255_iff hinv] at hvc hvr
  exact ⟨hcc.trans hvc.symm, hcr.trans hvr.symm⟩

/-! ### The writer of DisplayState (R112) -/

/-- The sequencer never writes DisplayState. -/
theorem PhaseEdge.display {s q : State} (h : PhaseEdge s q) :
    q.counter = s.counter ∧ q.running = s.running := by
  cases h <;> exact ⟨rfl, rfl⟩

/-- NOP and RELEASE hold DisplayState; every other control operation is one of R112's writers. -/
theorem exec_controlOp_display {s c : State} (h : exec s.controlOp s = .next c) :
    (c.counter = s.counter ∧ c.running = s.running) ∨
    (∃ x, s.controlOp = .pressStart x ∨ s.controlOp = .pressStop x ∨ s.controlOp = .tick x) ∨
    s.controlOp = .releaseTick := by
  obtain ⟨_, hop⟩ | ⟨x, hop⟩ | hop | hop | ⟨x, hop⟩ | ⟨x, hop⟩ := controlOp_cases s
  · rw [hop] at h; exact .inl (controlEdge_display h) -- NOP
  · exact .inr (.inl ⟨x, .inr (.inr hop)⟩) -- TICK
  · rw [hop] at h; exact .inl (controlEdge_display h) -- RELEASE
  · exact .inr (.inr hop) -- RELEASE_TICK
  · exact .inr (.inl ⟨x, .inl hop⟩) -- PRESS_START
  · exact .inr (.inl ⟨x, .inr (.inl hop)⟩) -- PRESS_STOP

/-- Settles O35: the join takes DisplayState from the control operation, and the other two units
hold it. -/
theorem displayStateHasOneWriter : Obligations.DisplayStateHasOneWriter := by
  constructor
  · intro s t h hchanged
    obtain ⟨hrst, -⟩ | ⟨-, b, c, q, -, hc, -, rfl⟩ := step_next_cases h
    · exact .inl hrst
    · obtain ⟨hcounter, hrunning⟩ | hwriter := exec_controlOp_display hc
      · simp [hcounter, hrunning] at hchanged
      · exact .inr hwriter
  · intro s q r hq hr
    obtain ⟨hcounter, hrunning⟩ := (phaseEdge_of_exec hq).display
    rw [exec_renderOp] at hr
    cases hr
    exact ⟨hcounter, hrunning, rfl, rfl⟩

/-! ### The whole edge (R113, R224) -/

/-- R113 in the model's own names for its events. -/
theorem wholeControlStep_eq (s : State) : wholeControlStep s =
    if s.press = true ∧ s.counter = 255 then (0, true, 0)
    else if s.press = true then (255, false, s.timerNext)
    else if s.tickEvent = true ∧ s.running = true then
      (s.counter + 1, decide (s.counter + 1 ≤ 63), s.timerNext)
    else (s.counter, s.running, s.timerNext) := by
  have hpress : s.press = (s.btnS2 && !s.btnPrev) := by
    unfold State.press State.edgeEvent
    cases s.btnS2 <;> simp
  rw [hpress]
  rfl

/-- R113's form of R108's flag update: where `running` is 1, clearing it above 63 is the
comparison. -/
theorem runningAfterTick_true (n : Byte) : runningAfterTick n true = decide (n ≤ 63) := by
  unfold runningAfterTick
  by_cases h : n > 63
  · rw [if_pos h, decide_eq_false (BitVec.not_le.mpr h)]
  · rw [if_neg h, decide_eq_true (BitVec.not_lt.mp h)]

theorem wholeControlStep_of_start {s : State} (h : s.press = true) (hidle : s.counter = 255) :
    wholeControlStep s = (0, true, 0) := by
  rw [wholeControlStep_eq, if_pos ⟨h, hidle⟩]

theorem wholeControlStep_of_stop {s : State} (h : s.press = true) (hidle : s.counter ≠ 255) :
    wholeControlStep s = (255, false, s.timerNext) := by
  rw [wholeControlStep_eq, if_neg (not_and_of_not_right _ hidle), if_pos h]

theorem wholeControlStep_of_tick {s : State} (h : s.press = false) (htick : s.tickEvent = true) :
    wholeControlStep s = (s.tickedCounter, s.tickedRunning, s.timerNext) := by
  cases hr : s.running <;>
    simp [wholeControlStep_eq, h, htick, hr, State.tickedCounter, State.tickedRunning,
      runningAfterTick_true]

theorem wholeControlStep_of_no_event {s : State} (h : s.press = false)
    (htick : s.tickEvent = false) :
    wholeControlStep s = (s.counter, s.running, s.timerNext) := by
  simp [wholeControlStep_eq, h, htick]

/-- Ties R113's whole step to the six operations: the selected one performs it. -/
theorem exec_controlOp_eq (s : State) : exec s.controlOp s =
    controlEdge s (wholeControlStep s).1 (wholeControlStep s).2.1 (wholeControlStep s).2.2 := by
  cases hpress : s.press
  · rw [controlOp_eq, hpress]
    cases htick : s.tickEvent
    · rw [wholeControlStep_of_no_event hpress htick]
      cases s.releaseEvent <;> rfl
    · rw [wholeControlStep_of_tick hpress htick]
      cases s.releaseEvent <;> rfl
  · rw [controlOp_of_press hpress]
    by_cases hidle : s.counter = 255
    · rw [wholeControlStep_of_start hpress hidle, if_pos hidle]
      rfl
    · rw [wholeControlStep_of_stop hpress hidle, if_neg hidle]
      rfl

/-- Ties R224's whole step to the phase operations: each branch of them is its branch. -/
theorem PhaseEdge.eq_wholeSequencerStep {s q : State} (h : PhaseEdge s q) :
    q = wholeSequencerStep s := by
  cases h <;> simp_all [wholeSequencerStep, State.currentFrame]

theorem exec_phaseOp_eq (s : State) : exec s.phaseOp s = .next (wholeSequencerStep s) := by
  obtain ⟨q, hq⟩ := exec_phaseOp_next s
  rw [hq, (phaseEdge_of_exec hq).eq_wholeSequencerStep]

/-- An edge with `rst` = 0 writes the control unit's registers by R113 and R100. -/
theorem step_control {s t : State} {b : Bool} (hrst : s.input.rst = false)
    (hb : s.sampleBtn = some b) (h : step s = .next t) :
    t.counter = (wholeControlStep s).1 ∧ t.running = (wholeControlStep s).2.1 ∧
    t.tickCnt = (wholeControlStep s).2.2 ∧ t.btnS1 = b ∧ t.btnS2 = s.btnS1 ∧ t.btnPrev = s.btnS2 := by
  rw [step_of_units hrst ((exec_controlOp_eq s).trans (controlEdge_of_sample hb _ _ _))
    (exec_phaseOp_eq s)] at h
  cases h
  exact ⟨rfl, rfl, rfl, rfl, rfl, rfl⟩

/-! ### The synchronizer (R100) -/

/-- The sequencer does not look at the input vector. -/
theorem wholeSequencerStep_drive (s : State) (v : InputVector) :
    wholeSequencerStep (s.drive v) = (wholeSequencerStep s).drive v := by
  obtain ⟨q, hq⟩ := exec_phaseOp_next s
  have hedge := phaseEdge_of_exec hq
  rw [← hedge.eq_wholeSequencerStep]
  cases hedge <;> simp_all [wholeSequencerStep, State.drive, State.currentFrame]

/-- Settles O37: the sample enters the next state as `btn_s1`, and nothing else of it depends on
what `btn` does. -/
theorem buttonReachesStateThroughSynchronizer :
    Obligations.ButtonReachesStateThroughSynchronizer := by
  constructor
  · intro s t b hrst hb h
    obtain ⟨-, -, -, hs1, hs2, hprev⟩ := step_control hrst hb h
    exact ⟨hs1, hs2, hprev⟩
  · intro s t u v w hvw ht hu
    obtain ⟨hv, rfl⟩ | ⟨hv, b, c, q, hb, hc, hq, rfl⟩ := step_next_cases ht <;>
      obtain ⟨hw, rfl⟩ | ⟨hw, b', c', q', hb', hc', hq', rfl⟩ := step_next_cases hu
    · rfl
    · cases hv.symm.trans (hvw.trans hw)
    · cases hv.symm.trans (hvw.trans hw)
    · rw [exec_controlOp_eq, controlEdge_of_sample ‹_›] at hc hc'
      rw [exec_phaseOp_eq, wholeSequencerStep_drive] at hq hq'
      cases hc; cases hc'; cases hq; cases hq'
      rfl

/-! ### Edges and runs without reset -/

/-- `btn` at an edge is the first level the edge detector has not seen yet. -/
theorem level_three_of_sample {s : State} {b : Bool} (h : s.sampleBtn = some b) :
    s.level 3 = b := by
  unfold State.sampleBtn at h
  unfold State.level
  cases hbtn : s.input.btn <;> simp_all

/-- n edges without reset and with a valid `btn`, from s to t: the constant and the environment's
part of them. The edge detector has moved on by n levels, and the inputs by n vectors. -/
structure QuietRun (n : Nat) (s t : State) : Prop where
  run_eq : run n s = .next t
  params : t.params = s.params
  inputAt : ∀ k, t.inputAt k = s.inputAt (n + k)
  level : ∀ k, t.level k = s.level (n + k)

/-- One such edge, with the control unit's part of it (R113). -/
structure QuietEdge (s t : State) : Prop extends QuietRun 1 s t where
  counter : t.counter = (wholeControlStep s).1
  running : t.running = (wholeControlStep s).2.1
  tickCnt : t.tickCnt = (wholeControlStep s).2.2

theorem QuietRun.zero (s : State) : QuietRun 0 s s where
  run_eq := rfl
  params := rfl
  inputAt k := by rw [Nat.zero_add]
  level k := by rw [Nat.zero_add]

theorem QuietRun.trans {m n : Nat} {s t u : State} (h : QuietRun m s t) (h' : QuietRun n t u) :
    QuietRun (m + n) s u where
  run_eq := by rw [run_add, h.run_eq, andThen_of_next, h'.run_eq]
  params := h'.params.trans h.params
  inputAt k := by rw [h'.inputAt, h.inputAt, Nat.add_assoc]
  level k := by rw [h'.level, h.level, Nat.add_assoc]

/-- What is left of a quiet stretch after its first edges is quiet. -/
theorem QuietRun.quiet {m n : Nat} {s t : State} (h : QuietRun m s t) (hs : s.Quiet (m + n)) :
    t.Quiet n := by
  intro k hk
  rw [h.inputAt]
  exact hs _ (by omega)

/-- Every edge takes one input vector and counts one. -/
theorem step_advances {s t : State} (h : step s = .next t) :
    (∀ k, t.inputAt k = s.inputAt (k + 1)) ∧ t.edge = s.edge + 1 := by
  obtain ⟨-, rfl⟩ | ⟨-, b, c, q, -, -, -, rfl⟩ := step_next_cases h <;> simp

theorem quietEdge_of_step {s t : State} {b : Bool} (hrst : s.input.rst = false)
    (hb : s.sampleBtn = some b) (h : step s = .next t) : QuietEdge s t := by
  obtain ⟨hcounter, hrunning, htick, hs1, hs2, hprev⟩ := step_control hrst hb h
  obtain ⟨hinput, hedge⟩ := step_advances h
  refine { run_eq := ?_, params := step_params h, inputAt := fun k => ?_, level := fun k => ?_
           counter := hcounter, running := hrunning, tickCnt := htick }
  · exact (run_succ 0 s).trans (congrArg (andThen · (run 0)) h)
  · rw [hinput, Nat.add_comm]
  · match k with
    | 0 => exact hprev
    | 1 => exact hs2
    | 2 => exact hs1.trans (level_three_of_sample hb).symm
    | k + 3 =>
      rw [show 1 + (k + 3) = (k + 1) + 3 by omega]
      simp only [State.level, hinput, hedge, Nat.add_assoc, Nat.add_comm 1 k]

/-- An edge with `rst` = 0 and a valid `btn` has a next state (R222, R274). -/
theorem exists_quietEdge {s : State} (h : s.Quiet 1) : ∃ t, QuietEdge s t := by
  obtain ⟨hrst, hbtn⟩ := h 0 Nat.one_pos
  obtain ⟨b, hb⟩ := Option.isSome_iff_exists.mp ((sampleBtn_isSome_iff s).mpr hbtn)
  obtain ⟨c, q, -, -, hstep⟩ := step_of_quiet h
  exact ⟨_, quietEdge_of_step hrst hb hstep⟩

/-- The control unit's registers after an edge whose case of R113 is known. -/
theorem QuietEdge.registers {s t : State} {c : Byte} {r : Bool} {n : Nat} (h : QuietEdge s t)
    (hcase : wholeControlStep s = (c, r, n)) : t.counter = c ∧ t.running = r ∧ t.tickCnt = n := by
  rw [h.counter, h.running, h.tickCnt, hcase]
  exact ⟨rfl, rfl, rfl⟩

/-- Induction over the edges of a quiet run: what holds of the first state and is kept by each edge
holds of the last state. -/
theorem exists_quietRun {n : Nat} {s : State} (P : Nat → State → Prop) (hquiet : s.Quiet n)
    (hzero : P 0 s)
    (hedge : ∀ k < n, ∀ u v, QuietRun k s u → QuietEdge u v → P k u → P (k + 1) v) :
    ∃ t, QuietRun n s t ∧ P n t := by
  induction n with
  | zero => exact ⟨s, .zero s, hzero⟩
  | succ n ih =>
    obtain ⟨u, hrun, hu⟩ := ih (Quiet_mono n.le_succ hquiet) fun k hk => hedge k (by omega)
    obtain ⟨v, huv⟩ := exists_quietEdge (hrun.quiet hquiet)
    exact ⟨v, hrun.trans huv.toQuietRun, hedge n n.lt_succ_self u v hrun huv hu⟩

/-- The events of a run's cycles are those of the levels it starts with. -/
theorem QuietRun.press_iff {k : Nat} {s u : State} (h : QuietRun k s u) :
    u.press = true ↔ s.level (k + 1) = true ∧ s.level k = false := by
  rw [Machine.press_iff, ← h.level 1]
  exact Iff.of_eq (congrArg (_ ∧ · = false) (h.level 0))

theorem QuietRun.press_eq_false {n k : Nat} {s u : State} (h : QuietRun k s u) (hk : k < n)
    (hs : s.NoPress n) : u.press = false :=
  Bool.eq_false_iff.mpr fun hpress => hs k hk (h.press_iff.mp hpress)

/-- Settles O38: at the third edge the risen level is in `btn_s2` and the level before it in
`btn_prev`, so that edge performs a press operation. -/
theorem everySampledRiseActsTwoEdgesLater : Obligations.EverySampledRiseActsTwoEdgesLater := by
  intro s hquiet hlow hrise
  obtain ⟨u, hsu, -⟩ := exists_quietRun (fun _ _ => True) (Quiet_mono (by omega) hquiet) trivial
    (n := 2) fun _ _ _ _ _ _ _ => trivial
  obtain ⟨t, hut⟩ := exists_quietEdge (hsu.quiet hquiet)
  have hpress : u.press = true := hsu.press_iff.mpr ⟨level_three_of_sample hrise, hlow⟩
  refine ⟨u, t, hsu.run_eq, (hsu.trans hut.toQuietRun).run_eq, ?_⟩
  by_cases hidle : u.counter = 255
  · obtain ⟨hc, hr, -⟩ := hut.registers (wholeControlStep_of_start hpress hidle)
    exact ⟨by rw [hc, if_pos hidle], by rw [hr, decide_eq_true hidle]⟩
  · obtain ⟨hc, hr, -⟩ := hut.registers (wholeControlStep_of_stop hpress hidle)
    exact ⟨by rw [hc, if_neg hidle], by rw [hr, decide_eq_false hidle]⟩

/-! ### Frozen DisplayState (R108, R116) -/

/-- Without a press, an edge leaves a DisplayState whose `running` is 0 (R108). -/
theorem wholeControlStep_of_frozen {s : State} (h : s.press = false) (hr : s.running = false) :
    wholeControlStep s = (s.counter, false, s.timerNext) := by
  simp [wholeControlStep_eq, h, hr]

theorem exists_quietRun_frozen {n : Nat} {s : State} (hr : s.running = false) (hquiet : s.Quiet n)
    (hpress : s.NoPress n) :
    ∃ t, QuietRun n s t ∧ t.counter = s.counter ∧ t.running = false := by
  refine exists_quietRun (fun _ u => u.counter = s.counter ∧ u.running = false) hquiet ⟨rfl, hr⟩ ?_
  rintro k hk u v hsu huv ⟨hcounter, hrunning⟩
  obtain ⟨hc, hr, -⟩ :=
    huv.registers (wholeControlStep_of_frozen (hsu.press_eq_false hk hpress) hrunning)
  exact ⟨hc.trans hcounter, hr⟩

/-- Settles O42: overtime is a frozen DisplayState. -/
theorem overtimeStaysFrozen : Obligations.OvertimeStaysFrozen := by
  intro n s hcounter hr hquiet hpress
  obtain ⟨t, hrun, htc, htr⟩ := exists_quietRun_frozen hr hquiet hpress
  exact ⟨t, hrun.run_eq, htc.trans hcounter, htr⟩

/-- A button held from before shows the pressed level alone (R101). -/
theorem level_of_held {n : Nat} {s : State} (h1 : s.btnS1 = true) (h2 : s.btnS2 = true)
    (hprev : s.btnPrev = true) (h : ∀ k < n, (s.inputAt k).btn = .high) {k : Nat}
    (hk : k < n + 3) : s.level k = true := by
  match k with
  | 0 => exact hprev
  | 1 => exact h2
  | 2 => exact h1
  | k + 3 => simp [State.level, h k (by omega)]

/-- Settles O39: no level rises where all of them are 1, and idle is a frozen DisplayState. -/
theorem heldButtonStartsNothing : Obligations.HeldButtonStartsNothing := by
  intro n s hcounter hr h1 h2 hprev hinput
  have hheld {k : Nat} (hk : k < n + 3) : s.level k = true :=
    level_of_held h1 h2 hprev (fun k hk => (hinput k hk).2) hk
  have hquiet : s.Quiet n := fun k hk => ⟨(hinput k hk).1, by simp [(hinput k hk).2]⟩
  have hpress : s.NoPress n := fun k hk h => by simp [hheld (show k < n + 3 by omega)] at h
  obtain ⟨t, hrun, htc, htr⟩ := exists_quietRun_frozen hr hquiet hpress
  exact ⟨t, hrun.run_eq, htc.trans hcounter, htr, (hrun.level 2).trans (hheld (by omega)),
    (hrun.level 1).trans (hheld (by omega)), (hrun.level 0).trans (hheld (by omega))⟩

/-! ### The timer and the countdown (R103, R116) -/

/-- Every control operation but PRESS_START lets the timer go on (R103). -/
theorem wholeControlStep_tickCnt {s : State} (h : ¬ (s.press = true ∧ s.counter = 255)) :
    (wholeControlStep s).2.2 = s.timerNext := by
  rw [wholeControlStep_eq, if_neg h]
  split_ifs <;> rfl

/-- The timer counts modulo TICK_PERIOD (R103). -/
theorem timerNext_of_mod {s : State} {k : Nat} (hpos : 1 ≤ s.params.tickPeriod)
    (h : s.tickCnt = k % s.params.tickPeriod) : s.timerNext = (k + 1) % s.params.tickPeriod := by
  have hlt := Nat.mod_lt k hpos
  unfold State.timerNext
  rw [h]
  split
  · have hmatch : k % s.params.tickPeriod + 1 = s.params.tickPeriod := by omega
    rw [← Nat.mod_add_mod, hmatch, Nat.mod_self]
  · have hbelow : k % s.params.tickPeriod + 1 < s.params.tickPeriod := by omega
    rw [← Nat.mod_add_mod, Nat.mod_eq_of_lt hbelow]

/-- Settles O40, by induction over the edges. -/
theorem tickTimerIsPeriodic : Obligations.TickTimerIsPeriodic := by
  intro n s hwf hzero hquiet hstart
  obtain ⟨hpos, -⟩ := s.params.wf_iff.mp hwf
  obtain ⟨t, hrun, ht⟩ :=
    exists_quietRun (fun k u => u.tickCnt = k % s.params.tickPeriod) hquiet (by simpa) (by
      intro k hk u v hsu huv hu
      rw [huv.tickCnt, wholeControlStep_tickCnt (hstart k hk u hsu.run_eq)]
      rw [← hsu.params] at hpos hu ⊢
      exact timerNext_of_mod hpos hu)
  exact ⟨t, hrun.run_eq, ht, by simp [State.tickEvent, hrun.params, ht]⟩

/-- The countdown's position k edges after its start: whole intervals in `counter`, the rest in the
timer, and `running` 1 up to the 64th interval's end. -/
structure CountdownAt (k : Nat) (s : State) : Prop where
  elapsed : s.counter.toNat * s.params.tickPeriod + s.tickCnt = k
  timer : s.tickCnt < s.params.tickPeriod
  running : s.running = decide (s.counter.toNat < 64)

/-- Where the countdown runs and no press comes, the tick closes an interval (R108). -/
theorem wholeControlStep_of_running_tick {s : State} (h : s.press = false)
    (hr : s.running = true) (htick : s.tickCnt = s.params.tickPeriod - 1) :
    wholeControlStep s = (s.counter + 1, decide (s.counter + 1 ≤ 63), 0) := by
  simp [wholeControlStep_eq, h, hr, State.tickEvent, State.timerNext, htick]

/-- Below the compare match only the timer counts. -/
theorem wholeControlStep_of_timer_below {s : State} (h : s.press = false)
    (htimer : s.tickCnt < s.params.tickPeriod - 1) :
    wholeControlStep s = (s.counter, s.running, s.tickCnt + 1) := by
  simp [wholeControlStep_eq, h, State.tickEvent, State.timerNext, Nat.not_le.mpr htimer, htimer.ne]

/-- While it runs and no press comes, an edge moves the countdown on by one cycle. -/
theorem QuietEdge.countdownAt {k : Nat} {s t : State} (h : QuietEdge s t) (hs : CountdownAt k s)
    (hpress : s.press = false) (hk : k < 64 * s.params.tickPeriod) : CountdownAt (k + 1) t := by
  obtain ⟨helapsed, htimer, hrunning⟩ := hs
  have hcounter : s.counter.toNat < 64 := by
    refine Nat.lt_of_mul_lt_mul_right (a := s.params.tickPeriod) ?_
    omega
  by_cases htick : s.tickCnt = s.params.tickPeriod - 1
  · rw [decide_eq_true hcounter] at hrunning
    obtain ⟨hc, hr, ht⟩ := h.registers (wholeControlStep_of_running_tick hpress hrunning htick)
    have hnext : t.counter.toNat = s.counter.toNat + 1 := by
      rw [hc]
      bv_omega
    refine ⟨?_, ?_, ?_⟩
    · rw [hnext, ht, h.params, Nat.add_one_mul]
      omega
    · rw [ht, h.params]
      omega
    · rw [hr, ← hc, decide_eq_decide, BitVec.le_def]
      exact Nat.lt_succ_iff.symm
  · obtain ⟨hc, hr, ht⟩ := h.registers (wholeControlStep_of_timer_below hpress (by omega))
    refine ⟨?_, ?_, ?_⟩
    · rw [hc, ht, h.params]
      omega
    · rw [ht, h.params]
      omega
    · rw [hr, hc, hrunning]

/-- Settles O41, by induction over the edges. -/
theorem countdownLastsSixtyFourIntervals : Obligations.CountdownLastsSixtyFourIntervals := by
  intro n s hwf hcounter hrunning hzero hn hquiet hpress
  obtain ⟨hpos, -⟩ := s.params.wf_iff.mp hwf
  obtain ⟨t, hrun, ht⟩ := exists_quietRun CountdownAt hquiet
    ⟨by simp [hcounter, hzero], by omega, by simp [hcounter, hrunning]⟩ (by
      intro k hk u v hsu huv hu
      exact huv.countdownAt hu (hsu.press_eq_false hk hpress) (by rw [hsu.params]; omega))
  obtain ⟨helapsed, htimer, htr⟩ := ht
  rw [hrun.params] at helapsed htimer
  have hcount : t.counter.toNat = n / s.params.tickPeriod := by
    rw [← helapsed, Nat.mul_comm, Nat.mul_add_div hpos, Nat.div_eq_of_lt htimer, Nat.add_zero]
  refine ⟨t, hrun.run_eq, hcount, ?_⟩
  rw [htr, hcount]
  simp only [Nat.div_lt_iff_lt_mul hpos]

end Sys2Proof.Machine

/-!
The renderer (spec/41_renderer.md): the counter ranges of the modes (R140), the frame of each render
function, and the running row and red masks on the naturals (R144 to R147).
-/

namespace Sys2Proof.Machine

/-! ### The running row mask (R145, R153) -/

/-- The matrix row a running frame lights: rows are scanned downwards in the first half of the
countdown and upwards in the second (R145). -/
def scannedRow (c : Byte) (j : BitVec 3) : BitVec 3 := if firstHalf c then 7 - j else j

theorem firstHalf_eq (c : Byte) : firstHalf c = decide (c.toNat < 32) := by
  simp [firstHalf, BitVec.lt_def]

theorem scannedRow_toNat (c : Byte) (j : BitVec 3) :
    (scannedRow c j).toNat = if c.toNat < 32 then 7 - j.toNat else j.toNat := by
  rw [scannedRow, firstHalf_eq]
  simp only [decide_eq_true_eq]
  split
  · bv_omega
  · rfl

/-- Both scanning orders are their own inverse. -/
theorem scannedRow_involutive (c : Byte) : Function.Involutive (scannedRow c) := by
  intro j
  unfold scannedRow
  split
  · exact sub_sub_cancel 7 j
  · rfl

/-- The row mask is one-hot in the scanned row. -/
theorem runRow_eq_twoPow (c : Byte) (j : BitVec 3) :
    runRow c j = BitVec.twoPow 8 (scannedRow c j).toNat := by
  rw [scannedRow_toNat, runRow, firstHalf_eq]
  simp only [decide_eq_true_eq]
  split <;> rfl

theorem runRow_getLsbD_iff (c : Byte) (j : BitVec 3) (b : Nat) :
    (runRow c j).getLsbD b = true ↔ (scannedRow c j).toNat = b := by
  have hrow : (scannedRow c j).toNat < 8 := (scannedRow c j).isLt
  simp [runRow_eq_twoPow, BitVec.getLsbD_twoPow, hrow]

theorem runRow_injective (c : Byte) : Function.Injective (runRow c) := by
  intro j k h
  have hbit : (runRow c j).getLsbD (scannedRow c k).toNat = true := by
    rw [h, runRow_getLsbD_iff]
  exact (scannedRow_involutive c).injective
    (BitVec.eq_of_toNat_eq ((runRow_getLsbD_iff c j _).mp hbit))

/-- Each bit position is that of exactly one frame. -/
theorem existsUnique_runRow_getLsbD (c : Byte) {b : Nat} (hb : b < 8) :
    ∃! j : BitVec 3, (runRow c j).getLsbD b = true := by
  have hscan := (scannedRow_involutive c).bijective.existsUnique (BitVec.ofNatLT b hb)
  simpa only [runRow_getLsbD_iff, ← BitVec.toNat_inj, BitVec.toNat_ofNatLT] using hscan

/-- Settles O44: the scanned rows of the 8 frames are a permutation of the matrix rows. -/
theorem runningPassMultiplexesRows : Obligations.RunningPassMultiplexesRows := by
  intro p c _
  exact ⟨fun j => ⟨_, (scannedRow c j).isLt, runRow_eq_twoPow c j⟩,
    fun _ _ h => runRow_injective c h, fun _ hb => existsUnique_runRow_getLsbD c hb⟩

/-! ### The frames of the render functions (R141) -/

@[simp] theorem frameOf_idle (p : Params) (c : Byte) (j : BitVec 3) :
    frameOf p Mode.idle c j = frameIdle := rfl

@[simp] theorem frameOf_run (p : Params) (c : Byte) (j : BitVec 3) :
    frameOf p Mode.run c j = frameRun p c j := rfl

@[simp] theorem frameOf_over (p : Params) (c : Byte) (j : BitVec 3) :
    frameOf p Mode.over c j = frameOver j := rfl

@[simp] theorem frameOf_reserved (p : Params) (c : Byte) (j : BitVec 3) :
    frameOf p Mode.reserved c j = frameRsvd := rfl

/-- Settles O23. -/
theorem renderIdleYieldsSolidBlue : Obligations.RenderIdleYieldsSolidBlue :=
  ⟨rfl, frameOf_idle, fun _ => rfl⟩

/-- Settles O24. -/
theorem renderOverYieldsRedThenBlank : Obligations.RenderOverYieldsRedThenBlank :=
  ⟨rfl, frameOf_over, fun _ => rfl⟩

/-- Settles O25. -/
theorem renderRsvdYieldsBlank : Obligations.RenderRsvdYieldsBlank :=
  ⟨rfl, frameOf_reserved, fun _ => rfl⟩

/-! ### The running masks on the naturals (R144 to R147) -/

theorem runRow_toNat (c : Byte) (j : BitVec 3) :
    (runRow c j).toNat = if c.toNat < 32 then 2 ^ (7 - j.toNat) else 2 ^ j.toNat := by
  rw [runRow_eq_twoPow, BitVec.toNat_twoPow_of_lt (scannedRow c j).isLt, scannedRow_toNat,
    apply_ite (2 ^ ·)]

theorem activeRow_toNat (c : Byte) : (activeRow c).toNat = c.toNat / 4 % 8 := by
  simp [activeRow, Nat.shiftRight_eq_div_pow]

theorem tableEntry_subPhase (t : Vector Nibble 8) (c : Byte) :
    tableEntry t (subPhase c) = t.get ⟨c.toNat % 8, Nat.mod_lt _ (Nat.succ_pos 7)⟩ :=
  rfl

/-- A table entry in the upper nibble of red (R146). -/
theorem nibble_shiftLeft_toNat (x : Nibble) : (x.setWidth 8 <<< 4).toNat = 16 * x.toNat := by
  revert x
  decide

/-- A table entry below a full upper nibble (R147). -/
theorem upperNibble_or_toNat (x : Nibble) :
    ((0xF0 : Byte) ||| x.setWidth 8).toNat = 0xF0 + x.toNat := by
  revert x
  decide

theorem runRed_toNat (p : Params) (c : Byte) (j : BitVec 3) :
    (runRed p c j).toNat =
      if c.toNat < 32 then
        (if j.toNat = c.toNat / 4 % 8 then
          16 * (p.growR.get ⟨c.toNat % 8, Nat.mod_lt _ (Nat.succ_pos 7)⟩).toNat
         else if j.toNat < c.toNat / 4 % 8 then 0xF0 else 0x00)
      else
        (if j.toNat = c.toNat / 4 % 8 then
          0xF0 + (p.growL.get ⟨c.toNat % 8, Nat.mod_lt _ (Nat.succ_pos 7)⟩).toNat
         else if j.toNat < c.toNat / 4 % 8 then 0xFF else 0xF0) := by
  rw [runRed, firstHalf_eq]
  simp only [decide_eq_true_eq, ← BitVec.toNat_inj, BitVec.lt_def, activeRow_toNat,
    apply_ite BitVec.toNat, nibble_shiftLeft_toNat, upperNibble_or_toNat, tableEntry_subPhase]
  rfl

/-- Settles O26: the row and red masks above; green is red's complement (R148). -/
theorem renderRunYieldsSweepFrame : Obligations.RenderRunYieldsSweepFrame := by
  refine ⟨rfl, ?_, fun _ => rfl⟩
  rintro p c j f rfl
  exact ⟨runRow_toNat c j, runRed_toNat p c j, BitVec.toNat_not, rfl⟩

/-! ### Mode decode (R140) -/

theorem modeOf_eq (c : Byte) :
    modeOf c = if c.toNat = 255 then Mode.idle else if 64 ≤ c.toNat then Mode.over else Mode.run := by
  simp only [modeOf, ← BitVec.toNat_inj, BitVec.le_def]
  rfl

theorem modeOf_eq_idle_iff (c : Byte) : modeOf c = Mode.idle ↔ c.toNat = 255 := by
  rw [modeOf_eq]
  split_ifs <;> simp [*]

theorem modeOf_eq_over_iff (c : Byte) :
    modeOf c = Mode.over ↔ 64 ≤ c.toNat ∧ c.toNat ≤ 254 := by
  rw [modeOf_eq]
  split_ifs <;> simp <;> omega

theorem modeOf_eq_run_iff (c : Byte) : modeOf c = Mode.run ↔ c.toNat ≤ 63 := by
  rw [modeOf_eq]
  split_ifs <;> simp <;> omega

/-- In the set S the flag is set exactly at the counters of the countdown (R115). -/
theorem running_iff_counter_le {s : State} (h : s.DisplayInv) :
    s.running = true ↔ s.counter.toNat ≤ 63 := by
  obtain ⟨hc, hr⟩ | ⟨hc, hr⟩ | ⟨hc, hr⟩ := h
  · simp [hc, hr]
  · simpa [hr] using BitVec.le_def.mp hc
  · simp [hc, hr]

/-- Settles O43. -/
theorem modesPartitionTheCounter : Obligations.ModesPartitionTheCounter :=
  ⟨fun c => ⟨modeOf_eq_idle_iff c, modeOf_eq_over_iff c, modeOf_eq_run_iff c⟩,
    fun s h => (running_iff_counter_le h).trans (modeOf_eq_run_iff s.counter).symm⟩

end Sys2Proof.Machine

/-!
The serializer (spec/42_serializer.md): the result of each line action, the levels the lines keep
between frames, one frame's transmission by R188's table, and what the chain holds after it.
-/

namespace Sys2Proof.Machine

/-! ### The line actions (R183 to R186) -/

/-- Settles O16: the level of `sclk` is the invariant's, as LATCH_LO is not CLK_LO. -/
theorem latchLoLowersLatch : Obligations.LatchLoLowersLatch := by
  refine ⟨rfl, fun s => rfl, ?_⟩
  rintro s ⟨hsclk, -, -⟩ hph
  have hlow : ¬ s.ph = Ph.clkLo := by rw [hph]; decide
  exact Bool.eq_false_iff.mpr (mt hsclk.mp hlow)

/-- Settles O17: the frame of DATA is the one being transmitted. -/
theorem dataDrivesWireBit : Obligations.DataDrivesWireBit := by
  refine ⟨rfl, ?_⟩
  rintro s f rfl
  rfl

/-- Settles O18. -/
theorem clkHiRaisesClock : Obligations.ClkHiRaisesClock :=
  ⟨rfl, fun _ => rfl⟩

/-- Settles O19: by the two branches of R186. -/
theorem clkLoEndsBitOrFrame : Obligations.ClkLoEndsBitOrFrame := by
  refine ⟨rfl, fun s => ?_⟩
  change execClkLo s = _
  unfold execClkLo
  by_cases hbit : s.bitIdx = 31
  · simp only [if_pos hbit]
    rw [← hbit]
  · have hnext : s.bitIdx + 1 = BitVec.ofNat 5 (s.bitIdx.toNat + 1) := by
      simp [BitVec.ofNat_add]
    simp only [if_neg hbit, hnext]

/-! ### The levels of the lines (R183, R187, R190) -/

/-- CLK_HI and CLK_LO raise and lower `sclk` on entering and leaving the CLK_LO cycle, LATCH_LO lowers
`latch` and LATCH_HI raises it. Every other edge holds both levels and does not move into or out of a
cycle that asks for another. -/
theorem PhaseEdge.linesInv {s q : State} (h : PhaseEdge s q) (hs : s.LinesInv) : q.LinesInv := by
  obtain ⟨hsclk, hlatch, hdwell⟩ := hs
  unfold State.LinesInv
  cases h with
  | clkHi hph | lastBit hph | nextBit hph => simp_all -- the writers of `sclk`
  | latchLo hph | lastRow hph | nextRow hph | startDwell hph | endPass hph => simp_all -- of `latch`
  | fetch hph | data hph | endRedDwell hph | endBlankDwell hph | countDwell hph | reserved hph =>
    simp_all -- both lines held

/-- Settles O59: the reset state meets the invariant, and every phase edge keeps it. -/
theorem stepKeepsLineLevels : Obligations.StepKeepsLineLevels := by
  intro s t hs h
  obtain ⟨-, rfl⟩ | ⟨-, b, c, q, -, -, hq, rfl⟩ := step_next_cases h
  · exact resetWith_linesInv s.params
  · exact (phaseEdge_of_exec hq).linesInv hs

/-! ### The sequencer's part of an edge without reset -/

theorem QuietEdge.step_eq {s t : State} (h : QuietEdge s t) : step s = .next t := by
  obtain ⟨u, hu, hut⟩ := andThen_next.mp ((run_succ 0 s).symm.trans h.run_eq)
  cases hut
  exact hu

theorem PhaseEdge.params {s q : State} (h : PhaseEdge s q) : q.params = s.params := by
  cases h <;> rfl

/-- The step takes the sequencer's registers from the phase operation, whose branch is known. -/
theorem QuietEdge.sequencer {s t q : State} (h : QuietEdge s t) (hs : s.Quiet 1)
    (hq : PhaseEdge s q) : SameSequencer t q := by
  obtain ⟨c, q', -, hq', hstep⟩ := step_of_quiet hs
  cases h.step_eq.symm.trans hstep
  have hsame : q' = q := by
    rw [(phaseEdge_of_exec hq').eq_wholeSequencerStep, ← hq.eq_wholeSequencerStep]
  rw [hsame]
  exact ⟨rfl, rfl, rfl, rfl, rfl, rfl, rfl, rfl, rfl, rfl, hq.params.symm⟩

/-! ### One frame (R188) -/

/-- The phase of a frame's cycle n: LATCH_LO, then DATA, CLK_HI and CLK_LO for each bit, then
LATCH_HI. Bit k is in progress in the cycles 3k + 1 to 3k + 3. -/
def framePhase (n : Nat) : BitVec 3 :=
  if n = 0 then Ph.latchLo
  else if n = 97 then Ph.latchHi
  else if n % 3 = 1 then Ph.data
  else if n % 3 = 2 then Ph.clkHi
  else Ph.clkLo

/-- `sclk` in cycle n of the frame that starts in s: high in the CLK_LO cycles, and up to the first
of them at its level in s. -/
def State.frameSclk (s : State) (n : Nat) : Bool := if n ≤ 2 then s.sclk else decide (n % 3 = 0)

/-- `sdata` in cycle n of the frame that starts in s: from the edge of DATA on, the bit it drives, and
before the first such edge its level in s. -/
def State.frameSdata (s : State) (n : Nat) : Bool :=
  if n ≤ 1 then s.sdata else s.currentFrame.wire.getLsbD ((n - 2) / 3)

theorem framePhase_data {k : Nat} (hk : k < 32) : framePhase (3 * k + 1) = Ph.data := by
  unfold framePhase
  rw [if_neg (by omega), if_neg (by omega), if_pos (by omega)]

theorem framePhase_clkHi (k : Nat) : framePhase (3 * k + 2) = Ph.clkHi := by
  unfold framePhase
  rw [if_neg (by omega), if_neg (by omega), if_neg (by omega), if_pos (by omega)]

theorem framePhase_clkLo (k : Nat) : framePhase (3 * k + 3) = Ph.clkLo := by
  unfold framePhase
  rw [if_neg (by omega), if_neg (by omega), if_neg (by omega), if_neg (by omega)]

/-- The DATA and CLK_HI cycles of bit k, and LATCH_HI. -/
theorem frameSclk_low (s : State) {n k : Nat} (h : n / 3 = k) (hn : n % 3 ≠ 0) :
    s.frameSclk n = if k = 0 then s.sclk else false := by
  unfold State.frameSclk
  by_cases hk : k = 0
  · rw [if_pos (by omega), if_pos hk]
  · rw [if_neg (by omega), if_neg hk, decide_eq_false hn]

theorem frameSclk_clkLo (s : State) {n : Nat} (hpos : 0 < n) (hn : n % 3 = 0) :
    s.frameSclk n = true := by
  unfold State.frameSclk
  rw [if_neg (by omega), decide_eq_true hn]

/-- The three cycles that show bit k. -/
theorem frameSdata_bit (s : State) {n k : Nat} (h : (n - 2) / 3 = k) (hn : 2 ≤ n) :
    s.frameSdata n = s.currentFrame.wire.getLsbD k := by
  unfold State.frameSdata
  rw [if_neg (by omega), h]

/-- The operands of the renderer are the same, and so the frame being transmitted is (R218). -/
structure SameFrame (s u : State) : Prop where
  params : u.params = s.params
  mode : u.mode = s.mode
  snapC : u.snapC = s.snapC
  fidx : u.fidx = s.fidx

theorem SameFrame.currentFrame {s u : State} (h : SameFrame s u) :
    u.currentFrame = s.currentFrame := by
  rw [State.currentFrame, State.currentFrame, h.params, h.mode, h.snapC, h.fidx]

/-- R188's table: u is in cycle n of the frame whose LATCH_LO cycle is that of s, so n line actions
have been performed. -/
structure FrameAt (s : State) (n : Nat) (u : State) : Prop where
  ph : u.ph = framePhase n
  frame : SameFrame s u
  bitIdx : 0 < n → n < 97 → u.bitIdx.toNat = (n - 1) / 3
  sdata : u.sdata = s.frameSdata n
  sclk : u.sclk = s.frameSclk n
  latch : 0 < n → u.latch = false

theorem FrameAt.start {s : State} (h : s.ph = Ph.latchLo) : FrameAt s 0 s where
  ph := h
  frame := ⟨rfl, rfl, rfl, rfl⟩
  bitIdx hpos := absurd hpos (Nat.lt_irrefl 0)
  sdata := rfl
  sclk := rfl
  latch hpos := absurd hpos (Nat.lt_irrefl 0)

/-- The table speaks of the sequencer's registers alone. -/
theorem FrameAt.congr {s q t : State} {n : Nat} (h : FrameAt s n q) (hqt : SameSequencer t q) :
    FrameAt s n t := by
  obtain ⟨hph, hmode, hc, -, hfidx, hbit, -, hsdata, hsclk, hlatch, hp⟩ := hqt
  exact {
    ph := hph.trans h.ph
    frame := ⟨hp.trans h.frame.params, hmode.trans h.frame.mode, hc.trans h.frame.snapC,
      hfidx.trans h.frame.fidx⟩
    bitIdx := fun hpos hn => (congrArg BitVec.toNat hbit).trans (h.bitIdx hpos hn)
    sdata := hsdata.trans h.sdata
    sclk := hsclk.trans h.sclk
    latch := fun hpos => hlatch.trans (h.latch hpos) }

/-- The cycles of a frame before LATCH_HI, by the line action that ends them. -/
theorem frame_cycle_cases {n : Nat} (h : n < 97) :
    n = 0 ∨ ∃ k < 32, n = 3 * k + 1 ∨ n = 3 * k + 2 ∨ n = 3 * k + 3 := by
  obtain rfl | hpos := Nat.eq_zero_or_pos n
  · exact .inl rfl
  · exact .inr ⟨(n - 1) / 3, by omega⟩

/-- The edge of LATCH_LO. -/
theorem FrameAt.latchLo_edge {s u : State} (h : FrameAt s 0 u) :
    ∃ q, PhaseEdge u q ∧ FrameAt s 1 q :=
  ⟨_, .latchLo h.ph, {
    ph := rfl
    frame := ⟨h.frame.params, h.frame.mode, h.frame.snapC, h.frame.fidx⟩
    bitIdx := fun _ _ => rfl
    sdata := h.sdata
    sclk := h.sclk
    latch := fun _ => rfl }⟩

/-- The edge of DATA drives bit k. -/
theorem FrameAt.data_edge {s u : State} {k : Nat} (h : FrameAt s (3 * k + 1) u) (hk : k < 32) :
    ∃ q, PhaseEdge u q ∧ FrameAt s (3 * k + 2) q := by
  have hbit : u.bitIdx.toNat = k := by
    have hindex := h.bitIdx (by omega) (by omega)
    omega
  exact ⟨_, .data (h.ph.trans (framePhase_data hk)), {
    ph := (framePhase_clkHi k).symm
    frame := ⟨h.frame.params, h.frame.mode, h.frame.snapC, h.frame.fidx⟩
    bitIdx := fun _ _ => by rw [hbit]; omega
    sdata := by
      rw [h.frame.currentFrame, hbit]
      exact (frameSdata_bit s (by omega) (by omega)).symm
    sclk := by
      rw [frameSclk_low s (k := k) (by omega) (by omega)]
      exact h.sclk.trans (frameSclk_low s (by omega) (by omega))
    latch := fun _ => h.latch (by omega) }⟩

/-- The edge of CLK_HI: the next cycle shows the same bit. -/
theorem FrameAt.clkHi_edge {s u : State} {k : Nat} (h : FrameAt s (3 * k + 2) u) (hk : k < 32) :
    ∃ q, PhaseEdge u q ∧ FrameAt s (3 * k + 3) q :=
  ⟨_, .clkHi (h.ph.trans (framePhase_clkHi k)), {
    ph := (framePhase_clkLo k).symm
    frame := ⟨h.frame.params, h.frame.mode, h.frame.snapC, h.frame.fidx⟩
    bitIdx := fun _ _ => (h.bitIdx (by omega) (by omega)).trans (by omega)
    sdata := by
      rw [frameSdata_bit s (k := k) (by omega) (by omega)]
      exact h.sdata.trans (frameSdata_bit s (by omega) (by omega))
    sclk := (frameSclk_clkLo s (by omega) (by omega)).symm
    latch := fun _ => h.latch (by omega) }⟩

/-- The edge of CLK_LO goes on to the next bit, or after bit 31 to LATCH_HI. -/
theorem FrameAt.clkLo_edge {s u : State} {k : Nat} (h : FrameAt s (3 * k + 3) u) (hk : k < 32) :
    ∃ q, PhaseEdge u q ∧ FrameAt s (3 * (k + 1) + 1) q := by
  have hbit : u.bitIdx.toNat = k := by
    have hindex := h.bitIdx (by omega) (by omega)
    omega
  have hclkLo := h.ph.trans (framePhase_clkLo k)
  have hframe : SameFrame s u := h.frame
  have hheld : u.sdata = s.frameSdata (3 * (k + 1) + 1) := by
    rw [frameSdata_bit s (k := k) (by omega) (by omega)]
    exact h.sdata.trans (frameSdata_bit s (by omega) (by omega))
  have hlow : false = s.frameSclk (3 * (k + 1) + 1) :=
    (frameSclk_low s (k := k + 1) (by omega) (by omega)).symm
  by_cases hlast : k = 31
  · subst hlast
    exact ⟨_, .lastBit hclkLo (BitVec.eq_of_toNat_eq hbit), {
      ph := rfl
      frame := ⟨hframe.params, hframe.mode, hframe.snapC, hframe.fidx⟩
      bitIdx := fun _ h => absurd h (by omega)
      sdata := hheld
      sclk := hlow
      latch := fun _ => h.latch (by omega) }⟩
  · have hne : u.bitIdx ≠ 31 := fun h => hlast (hbit.symm.trans (congrArg BitVec.toNat h))
    exact ⟨_, .nextBit hclkLo hne, {
      ph := (framePhase_data (k := k + 1) (by omega)).symm
      frame := ⟨hframe.params, hframe.mode, hframe.snapC, hframe.fidx⟩
      bitIdx := fun _ _ => by
        have hnext : (u.bitIdx + 1).toNat = (k + 1) % 32 := by rw [BitVec.toNat_add, hbit]; rfl
        rw [hnext]
        omega
      sdata := hheld
      sclk := hlow
      latch := fun _ => h.latch (by omega) }⟩

/-- Each edge before that of LATCH_HI moves the frame on by one cycle of R188's table. -/
theorem FrameAt.exists_phaseEdge {s u : State} {n : Nat} (h : FrameAt s n u) (hn : n < 97) :
    ∃ q, PhaseEdge u q ∧ FrameAt s (n + 1) q := by
  obtain rfl | ⟨k, hk, rfl | rfl | rfl⟩ := frame_cycle_cases hn
  · exact h.latchLo_edge
  · exact h.data_edge hk
  · exact h.clkHi_edge hk
  · exact h.clkLo_edge hk

theorem FrameAt.edge {s u v : State} {n : Nat} (h : FrameAt s n u) (hn : n < 97)
    (huv : QuietEdge u v) (hu : u.Quiet 1) : FrameAt s (n + 1) v := by
  obtain ⟨q, huq, hq⟩ := h.exists_phaseEdge hn
  exact hq.congr (huv.sequencer hu huq)

/-- The first 97 edges of a frame follow R188's table. -/
theorem exists_frameAt {s : State} {n : Nat} (hph : s.ph = Ph.latchLo) (hn : n ≤ 97)
    (hquiet : s.Quiet n) : ∃ u, QuietRun n s u ∧ FrameAt s n u :=
  exists_quietRun (FrameAt s) hquiet (.start hph) fun k hk u _ hsu huv hu =>
    hu.edge (by omega) huv (hsu.quiet (Quiet_mono (by omega) hquiet))

/-- R187: the edge of LATCH_HI raises `latch`, after the last bit. -/
theorem FrameAt.commit {s u v : State} (h : FrameAt s 97 u) (huv : QuietEdge u v)
    (hu : u.Quiet 1) :
    v.latch = true ∧ v.sclk = false ∧ v.sdata = s.currentFrame.wire.getLsbD 31 := by
  obtain ⟨-, hlines⟩ := linesAreWrittenByTheirPhases u v huv.step_eq
  obtain ⟨hrst, -⟩ := hu 0 Nat.one_pos
  obtain ⟨hsdata, hsclk, hlatch⟩ := hlines hrst
  have hph : u.ph = Ph.latchHi := h.ph
  refine ⟨?_, ?_, ?_⟩
  · rw [hlatch, if_pos hph]
  · simpa [hph, h.sclk, State.frameSclk] using hsclk
  · simpa [hph, h.sdata, State.frameSdata] using hsdata

/-- Settles O47: each line of the statement is a row of the table; the last is the edge of
LATCH_HI. -/
theorem frameTakesNinetyEightCycles : Obligations.FrameTakesNinetyEightCycles := by
  intro s hph hquiet
  have at_cycle (n : Nat) (hn : n ≤ 97) : ∃ u, QuietRun n s u ∧ FrameAt s n u :=
    exists_frameAt hph hn (Quiet_mono (by omega) hquiet)
  refine ⟨?_, fun k hk => ?_, ?_, ?_⟩
  · obtain ⟨t, hst, ht⟩ := at_cycle 1 (by omega)
    exact ⟨t, hst.run_eq, ht.latch Nat.one_pos, ht.sdata, ht.sclk⟩
  · obtain ⟨x, hsx, hx⟩ := at_cycle (3 * k + 2) (by omega)
    obtain ⟨y, hsy, hy⟩ := at_cycle (3 * k + 3) (by omega)
    obtain ⟨z, hsz, hz⟩ := at_cycle (3 * (k + 1) + 1) (by omega)
    have shows {n : Nat} (hbit : (n - 2) / 3 = k) (hn : 2 ≤ n) := frameSdata_bit s hbit hn
    rw [Nat.add_comm 2, Nat.add_comm 3, Nat.add_comm 4]
    exact ⟨x, y, z, hsx.run_eq, hsy.run_eq, hsz.run_eq,
      hx.sdata.trans (shows (by omega) (by omega)),
      hx.sclk.trans (frameSclk_low s (by omega) (by omega)),
      hx.latch (by omega),
      hy.sdata.trans (shows (by omega) (by omega)),
      hy.sclk.trans (frameSclk_clkLo s (by omega) (by omega)),
      hy.latch (by omega),
      hz.sdata.trans (shows (by omega) (by omega)),
      hz.sclk.trans (frameSclk_low s (k := k + 1) (by omega) (by omega)),
      hz.latch (by omega)⟩
  · obtain ⟨t, hst, ht⟩ := at_cycle 97 (by omega)
    exact ⟨t, hst.run_eq, ht.ph, ht.latch (by omega)⟩
  · obtain ⟨u, hsu, hu⟩ := at_cycle 97 (by omega)
    have huquiet : u.Quiet 1 := hsu.quiet hquiet
    obtain ⟨t, hut⟩ := exists_quietEdge huquiet
    exact ⟨t, (hsu.trans hut.toQuietRun).run_eq, hu.commit hut huquiet⟩

/-! ### The chain (R189) -/

/-- The chain watches one edge more at the end of a run. -/
theorem runWithChain_succ {n : Nat} {s u v : State} {c d : Chain}
    (h : runWithChain n s c = .next (u, d)) (huv : step u = .next v) :
    runWithChain (n + 1) s c = .next (v, chainEdge u v d) := by
  induction n generalizing s c with
  | zero =>
    cases h
    simp [runWithChain, huv]
  | succ n ih =>
    rw [runWithChain] at h ⊢
    cases hs : step s with
    | next t => rw [hs] at h; exact ih h
    | fault e => simp [hs] at h
    | refused e => simp [hs] at h

/-- The shift stage q after the first k bits of w have been shifted in. -/
def shiftedIn (w q : WireWord) : Nat → WireWord
  | 0 => q
  | k + 1 => (shiftedIn w q k <<< 1) ||| (BitVec.ofBool (w.getLsbD k)).setWidth 32

/-- Of the k bits shifted in, the last stands at position 0. -/
theorem getLsbD_shiftedIn (w q : WireWord) {k i : Nat} (hi : i < k) (hi' : i < 32) :
    (shiftedIn w q k).getLsbD i = w.getLsbD (k - 1 - i) := by
  induction k generalizing i with
  | zero => omega
  | succ k ih =>
    cases i with
    | zero => simp [shiftedIn]
    | succ i =>
      have hbelow := ih (i := i) (by omega) (by omega)
      have hpos : k - 1 - i = k + 1 - 1 - (i + 1) := by omega
      have hshift : (shiftedIn w q (k + 1)).getLsbD (i + 1) = (shiftedIn w q k).getLsbD i := by
        simp [shiftedIn, hi', BitVec.getLsbD_eq_getElem (show i < 32 by omega)]
      rw [hshift, hbelow, hpos]

/-- 32 bits fill the stage, whatever it held, the first of them farthest. -/
theorem shiftedIn_thirty_two (w q : WireWord) : shiftedIn w q 32 = bitrev32 w := by
  refine BitVec.eq_of_getLsbD_eq fun i hi => ?_
  rw [getLsbD_shiftedIn w q hi hi, bitrev32, BitVec.getLsbD_reverse, BitVec.getMsbD]
  simp [hi]

/-- Without a rise of `latch` the chain commits nothing. -/
theorem chainEdge_out_of_latch_low {u v : State} (d : Chain) (h : v.latch = false) :
    (chainEdge u v d).out = d.out := by
  simp [chainEdge, h]

theorem chainEdge_q_of_sclk_low {u v : State} (d : Chain) (h : v.sclk = false) :
    (chainEdge u v d).q = d.q := by
  simp [chainEdge, h]

theorem chainEdge_q_of_rise {u v : State} (d : Chain) (hu : u.sclk = false) (hv : v.sclk = true) :
    (chainEdge u v d).q = (d.q <<< 1) ||| (BitVec.ofBool v.sdata).setWidth 32 := by
  simp [chainEdge, hu, hv]

/-- In a frame entered with `sclk` low, the chain shifts bit k in at the edge into the CLK_LO cycle
3k + 3, and nothing at any other edge. -/
theorem FrameAt.chainEdge_q {s u v : State} {n : Nat} {d : Chain} {q : WireWord}
    (hu : FrameAt s n u) (hv : FrameAt s (n + 1) v) (hlow : s.sclk = false)
    (hd : d.q = shiftedIn s.currentFrame.wire q (n / 3)) :
    (chainEdge u v d).q = shiftedIn s.currentFrame.wire q ((n + 1) / 3) := by
  have low {m : Nat} (hm : m % 3 ≠ 0) : s.frameSclk m = false := by
    simp [frameSclk_low s rfl hm, hlow]
  by_cases hrise : (n + 1) % 3 = 0
  · have hbit : v.sdata = s.currentFrame.wire.getLsbD (n / 3) :=
      hv.sdata.trans (frameSdata_bit s (by omega) (by omega))
    have hnext : (n + 1) / 3 = n / 3 + 1 := by omega
    rw [chainEdge_q_of_rise d (hu.sclk.trans (low (by omega)))
      (hv.sclk.trans (frameSclk_clkLo s n.succ_pos hrise)), hd, hbit, hnext]
    rfl
  · have hsame : (n + 1) / 3 = n / 3 := by omega
    rw [chainEdge_q_of_sclk_low d (hv.sclk.trans (low hrise)), hd, hsame]

/-- The chain in cycle n of a frame: it has shifted in the bits for which `sclk` has risen, and has
committed nothing. -/
structure ChainAt (s : State) (c : Chain) (n : Nat) (u : State) (d : Chain) : Prop where
  run_eq : runWithChain n s c = .next (u, d)
  q : d.q = shiftedIn s.currentFrame.wire c.q (n / 3)
  out : d.out = c.out

/-- One edge before that of LATCH_HI, with the chain watching. -/
theorem ChainAt.edge {s u v : State} {c d : Chain} {n : Nat} (h : ChainAt s c n u d)
    (hu : FrameAt s n u) (hv : FrameAt s (n + 1) v) (hlow : s.sclk = false)
    (huv : step u = .next v) : ChainAt s c (n + 1) v (chainEdge u v d) where
  run_eq := runWithChain_succ h.run_eq huv
  q := hu.chainEdge_q hv hlow h.q
  out := (chainEdge_out_of_latch_low d (hv.latch n.succ_pos)).trans h.out

theorem exists_chainAt {s : State} {n : Nat} (c : Chain) (hph : s.ph = Ph.latchLo)
    (hlow : s.sclk = false) (hn : n ≤ 97) (hquiet : s.Quiet n) :
    ∃ u d, QuietRun n s u ∧ FrameAt s n u ∧ ChainAt s c n u d := by
  suffices h : ∃ u, QuietRun n s u ∧ FrameAt s n u ∧ ∃ d, ChainAt s c n u d by
    obtain ⟨u, hsu, hu, d, hd⟩ := h
    exact ⟨u, d, hsu, hu, hd⟩
  refine exists_quietRun (fun n u => FrameAt s n u ∧ ∃ d, ChainAt s c n u d) hquiet
    ⟨.start hph, c, rfl, rfl, rfl⟩ ?_
  rintro k hk u v hsu huv ⟨hu, d, hd⟩
  have hv := hu.edge (by omega) huv (hsu.quiet (Quiet_mono (by omega) hquiet))
  exact ⟨hv, _, hd.edge hu hv hlow huv.step_eq⟩

/-- Settles O48: the rise of `latch` at edge 98 commits the 32 bits shifted in until then. -/
theorem chainCommitsTheFrame : Obligations.ChainCommitsTheFrame := by
  intro s c hph hlow hquiet
  obtain ⟨u, d, hsu, hu, hrun, hq, -⟩ :=
    exists_chainAt c hph hlow le_rfl (Quiet_mono (by omega) hquiet)
  have huquiet : u.Quiet 1 := hsu.quiet hquiet
  obtain ⟨t, hut⟩ := exists_quietEdge huquiet
  obtain ⟨hlatch, hsclk, -⟩ := hu.commit hut huquiet
  have hword : d.q = bitrev32 s.currentFrame.wire := hq.trans (shiftedIn_thirty_two _ _)
  refine ⟨t, (runWithChain_succ hrun hut.step_eq).trans ?_⟩
  simp [chainEdge, hlatch, hsclk, hu.latch, hword]

end Sys2Proof.Machine

/-!
The sequencer (spec/43_sequencer.md): the phases that are no line actions, the edge of the whole block
by the spec's own whole steps (R113, R224, R226), what the sequencer sees within a pass, and the three
kinds of pass, each put together from frames and dwells (R213 to R216).
-/

namespace Sys2Proof.Machine

/-! ### The phase operations (R211, R212, R216, R217) -/

/-- R140's ranges in the order R211 writes them. -/
theorem modeOf_eq_ranges (c : Byte) :
    modeOf c = if c = 255 then Mode.idle else if c.toNat ≤ 63 then Mode.run else Mode.over := by
  have hover : 64 ≤ c ↔ ¬ c.toNat ≤ 63 := by rw [BitVec.le_def, Nat.not_le]; rfl
  rw [modeOf]
  simp only [hover, ite_not]

/-- Settles O15: the mode is R140's. -/
theorem fetchTakesSnapshot : Obligations.FetchTakesSnapshot := by
  refine ⟨rfl, fun s => ?_⟩
  change execFetch s = _
  rw [execFetch, modeOf_eq_ranges]

/-- Settles O20, by the branches of R212. -/
theorem latchHiCommitsAndChoosesSuccessor : Obligations.LatchHiCommitsAndChoosesSuccessor := by
  refine ⟨rfl, fun s => ?_⟩
  change execLatchHi s = _
  unfold execLatchHi
  by_cases hrun : s.mode = 1#2
  · by_cases hlast : s.fidx = 7#3
    · simp [hrun, hlast]
    · simp [hrun, hlast, BitVec.ofNat_add]
  · by_cases hover : s.mode = 2#2
    · simp [hover]
    · simp [hrun, hover]

/-- Settles O21, by the branches of R216. -/
theorem dwellCountsThenMovesOn : Obligations.DwellCountsThenMovesOn := by
  refine ⟨rfl, fun s => ?_⟩
  change execDwell s = _
  unfold execDwell
  by_cases hend : s.dwellCnt ≥ s.params.dwellCycles - 1
  · by_cases hred : s.fidx = 0
    · simp only [hend, hred, if_true, and_self]
    · simp only [hend, hred, if_true, if_false, and_false]
  · simp only [hend, if_false, false_and]

/-- Settles O22. -/
theorem reservedPhaseGoesToFetch : Obligations.ReservedPhaseGoesToFetch :=
  ⟨rfl, fun _ => rfl⟩

/-! ### The edge of the whole block (R226) -/

/-- Settles O31: the step answers what `joinUnits` puts together, and the renderer's net is the frame
being transmitted. -/
theorem stepRunsTheSelectedOperations : Obligations.StepRunsTheSelectedOperations := by
  constructor
  · intro s t hrst ht
    cases ht
    exact step_of_reset hrst
  · intro s c q r hrst hc hq hr
    cases hr.symm.trans (exec_renderOp s)
    exact step_of_units hrst hc hq

/-- R224's whole step is a branch of the phase operation. -/
theorem phaseEdge_wholeSequencerStep (s : State) : PhaseEdge s (wholeSequencerStep s) :=
  phaseEdge_of_exec (exec_phaseOp_eq s)

/-- Settles O32: the selected operations perform the two whole steps, and neither the join nor R224's
step writes the parameters. -/
theorem stepIsTheWholeBlockStep : Obligations.StepIsTheWholeBlockStep := by
  refine fun s b => ⟨step_of_reset, fun hrst hb => ?_⟩
  rw [step_of_units hrst ((exec_controlOp_eq s).trans (controlEdge_of_sample hb _ _ _))
    (exec_phaseOp_eq s)]
  simp [joinUnits, State.advance, (phaseEdge_wholeSequencerStep s).params]

/-- A floating `btn` has no sample (R274). -/
theorem sampleBtn_eq_none_iff (s : State) : s.sampleBtn = none ↔ s.input.btn = .floating := by
  rw [← Option.not_isSome_iff_eq_none, sampleBtn_isSome_iff, not_not]

/-- Without reset, a floating `btn` stops the block at the control operation (R274). -/
theorem step_of_floating {s : State} (hrst : s.input.rst = false) (hbtn : s.input.btn = .floating) :
    step s = .refused .floatingButton := by
  simp [step, clockEdge, hrst, exec_controlOp_of_floating ((sampleBtn_eq_none_iff s).mpr hbtn),
    andThen]

/-- Settles O33: a reset edge and an edge with a sample of `btn` have next states, and what is left
is the refusal. -/
theorem stepStopsOnlyOnFloatingButton : Obligations.StepStopsOnlyOnFloatingButton := by
  refine fun s => ⟨⟨?_, ?_⟩, step_of_floating⟩
  · rintro ⟨t, ht⟩
    obtain ⟨hrst, -⟩ | ⟨-, b, c, q, hb, -⟩ := step_next_cases ht
    · exact .inl hrst
    · exact .inr ((sampleBtn_isSome_iff s).mp (Option.isSome_of_eq_some hb))
  · intro h
    cases hrst : s.input.rst with
    | true => exact ⟨_, step_of_reset hrst⟩
    | false =>
      have hbtn := h.resolve_left (by simp [hrst])
      have hquiet : s.Quiet 1 := fun k hk => by
        obtain rfl := Nat.lt_one_iff.mp hk
        exact ⟨hrst, hbtn⟩
      obtain ⟨c, q, -, -, hstep⟩ := step_of_quiet hquiet
      exact ⟨_, hstep⟩

/-! ### What the sequencer sees within a pass (R218, R219, R225) -/

theorem SameSequencer.symm {s t : State} (h : SameSequencer s t) : SameSequencer t s := by
  simp_all [SameSequencer]

theorem SameSequencer.trans {s t u : State} (h : SameSequencer s t) (h' : SameSequencer t u) :
    SameSequencer s u := by
  simp_all [SameSequencer]

/-- The renderer's operands are among the sequencer's registers and the parameters. -/
theorem SameSequencer.sameFrame {s t : State} (h : SameSequencer s t) : SameFrame t s := by
  obtain ⟨-, hmode, hsnap, -, hfidx, -, -, -, -, -, hparams⟩ := h
  exact ⟨hparams, hmode, hsnap, hfidx⟩

/-- The sequencer's part of an edge without reset is a branch of the phase operation. -/
theorem exists_phaseEdge_of_step {s t : State} (hrst : s.input.rst = false)
    (h : step s = .next t) : ∃ q, PhaseEdge s q ∧ SameSequencer t q := by
  obtain ⟨hreset, -⟩ | ⟨-, b, c, q, -, -, hq, rfl⟩ := step_next_cases h
  · cases hrst.symm.trans hreset
  · have hedge := phaseEdge_of_exec hq
    exact ⟨q, hedge, rfl, rfl, rfl, rfl, rfl, rfl, rfl, rfl, rfl, rfl, hedge.params.symm⟩

/-- The writers of the renderer's operands are FETCH, LATCH_HI and the end of a dwell (R27 to R29). -/
theorem PhaseEdge.sameFrame {s q : State} (h : PhaseEdge s q) (hfetch : s.ph ≠ Ph.fetch)
    (hcommit : s.ph ≠ Ph.latchHi)
    (hdwell : ¬ (s.ph = Ph.dwell ∧ s.dwellCnt ≥ s.params.dwellCycles - 1)) : SameFrame s q := by
  cases h with
  | fetch hph => exact absurd hph hfetch
  | lastRow hph | nextRow hph | startDwell hph | endPass hph => exact absurd hph hcommit
  | endRedDwell hph hcnt | endBlankDwell hph hcnt => exact absurd ⟨hph, hcnt⟩ hdwell
  | latchLo | data | clkHi | lastBit | nextBit | countDwell | reserved => exact ⟨rfl, rfl, rfl, rfl⟩

/-- Settles O46: the other phase edges hold the renderer's operands. -/
theorem frameIsStableWhileShifting : Obligations.FrameIsStableWhileShifting := by
  intro s t h hrst hfetch hcommit hdwell
  obtain ⟨q, hedge, hsame⟩ := exists_phaseEdge_of_step hrst h
  exact hsame.sameFrame.currentFrame.trans (hedge.sameFrame hfetch hcommit hdwell).currentFrame

/-- FETCH alone reads a register of the control unit (R225): from states whose sequencers agree, any
other phase takes the same branch and writes the same values. -/
theorem PhaseEdge.sameSequencer {s u q r : State} (hq : PhaseEdge s q) (hr : PhaseEdge u r)
    (h : SameSequencer s u) (hfetch : s.ph ≠ Ph.fetch) : SameSequencer q r := by
  rw [hr.eq_wholeSequencerStep]
  replace h := h.symm
  cases hq with
  | fetch hph => exact absurd hph hfetch
  | countDwell hph hcnt =>
    have hbelow : s.dwellCnt + 1 < s.params.dwellCycles := by omega
    simp_all [SameSequencer, wholeSequencerStep, Nat.not_le.mpr hbelow]
  | latchLo | data | clkHi | lastBit | nextBit | lastRow | nextRow | startDwell | endPass |
    endRedDwell | endBlankDwell | reserved =>
    simp_all [SameSequencer, wholeSequencerStep, State.currentFrame]

/-- Settles O52. -/
theorem passIgnoresControlUnit : Obligations.PassIgnoresControlUnit := by
  intro s u t v h hfetch hs hu ht hv
  obtain ⟨q, hq, htq⟩ := exists_phaseEdge_of_step hs ht
  obtain ⟨r, hr, hvr⟩ := exists_phaseEdge_of_step hu hv
  have hsame : SameSequencer t v := (htq.trans (hq.sameSequencer hr h hfetch)).trans hvr.symm
  exact ⟨hsame, hsame.sameFrame.currentFrame⟩

/-! ### Stretches of a pass -/

/-- A quiet run that is in FETCH in none of its cycles; its last state is the next stretch's. -/
structure BusyRun (n : Nat) (s t : State) : Prop extends QuietRun n s t where
  busy : ∀ k < n, ∃ u, QuietRun k s u ∧ u.ph ≠ Ph.fetch

theorem BusyRun.zero (s : State) : BusyRun 0 s s where
  toQuietRun := .zero s
  busy _ hk := absurd hk (Nat.not_lt_zero _)

theorem BusyRun.trans {m n : Nat} {s t u : State} (h : BusyRun m s t) (h' : BusyRun n t u) :
    BusyRun (m + n) s u where
  toQuietRun := h.toQuietRun.trans h'.toQuietRun
  busy k hk := by
    by_cases hkm : k < m
    · exact h.busy k hkm
    · obtain ⟨v, htv, hv⟩ := h'.busy (k - m) (by omega)
      have hsum : m + (k - m) = k := by omega
      exact ⟨v, hsum ▸ h.toQuietRun.trans htv, hv⟩

/-- After a FETCH edge and a busy run, no state in between was in FETCH. -/
theorem BusyRun.not_fetch_between {n : Nat} {s t u : State} (hst : QuietRun 1 s t)
    (h : BusyRun n t u) {k : Nat} (hpos : 0 < k) (hk : k < 1 + n) :
    ∃ v, run k s = .next v ∧ v.ph ≠ Ph.fetch := by
  obtain ⟨v, htv, hv⟩ := h.busy (k - 1) (by omega)
  have hsum : 1 + (k - 1) = k := by omega
  exact ⟨v, hsum ▸ (hst.trans htv).run_eq, hv⟩

/-- The sequencer's position: the phase p, in frame j of a pass of mode m with snapshot c. -/
structure PassAt (p : BitVec 3) (m : BitVec 2) (c : Byte) (j : BitVec 3) (s : State) : Prop where
  ph : s.ph = p
  mode : s.mode = m
  snapC : s.snapC = c
  fidx : s.fidx = j

theorem PassAt.currentFrame {p : BitVec 3} {m : BitVec 2} {c : Byte} {j : BitVec 3} {s : State}
    (h : PassAt p m c j s) : s.currentFrame = frameOf s.params m c j := by
  rw [State.currentFrame, h.mode, h.snapC, h.fidx]

/-- The position is part of the sequencer's registers. -/
theorem SameSequencer.passAt {p : BitVec 3} {m : BitVec 2} {c : Byte} {j : BitVec 3} {q t : State}
    (hqt : SameSequencer t q) (h : PassAt p m c j q) : PassAt p m c j t := by
  obtain ⟨hph, hmode, hsnap, -, hfidx, -⟩ := hqt
  exact ⟨hph.trans h.ph, hmode.trans h.mode, hsnap.trans h.snapC, hfidx.trans h.fidx⟩

section Stretches

variable {m : BitVec 2} {c : Byte} {j : BitVec 3} {s : State} {d : Nat}

/-- FETCH starts frame 0 of a pass of the counter it fetches (R211). -/
theorem exists_fetch_edge (hph : s.ph = Ph.fetch) (hquiet : s.Quiet 1) :
    ∃ t, QuietRun 1 s t ∧ PassAt Ph.latchLo (modeOf s.counter) s.counter 0 t := by
  obtain ⟨t, hst⟩ := exists_quietEdge hquiet
  exact ⟨t, hst.toQuietRun, (hst.sequencer hquiet (.fetch hph)).passAt ⟨rfl, rfl, rfl, rfl⟩⟩

/-! ### One frame of a pass (R188, R212) -/

theorem framePhase_ne_fetch (n : Nat) : framePhase n ≠ Ph.fetch := by
  unfold framePhase
  split_ifs <;> decide

/-- A frame's 98 edges end with that of LATCH_HI, whose branch R212 chooses. -/
theorem PassAt.exists_frame (h : PassAt Ph.latchLo m c j s) (hquiet : s.Quiet 98) :
    ∃ t, BusyRun 98 s t ∧
      ∃ v, PassAt Ph.latchHi m c j v ∧ ∀ q, PhaseEdge v q → SameSequencer t q := by
  obtain ⟨v, hsv, hv⟩ := exists_frameAt h.ph le_rfl (Quiet_mono (by omega) hquiet)
  have hvquiet : v.Quiet 1 := hsv.quiet hquiet
  obtain ⟨t, hvt⟩ := exists_quietEdge hvquiet
  refine ⟨t, { toQuietRun := hsv.trans hvt.toQuietRun, busy := fun k hk => ?_ }, v, ?_,
    fun q => hvt.sequencer hvquiet⟩
  · obtain ⟨u, hsu, hu⟩ := exists_frameAt h.ph (show k ≤ 97 by omega) (Quiet_mono (by omega) hquiet)
    exact ⟨u, hsu, hu.ph ▸ framePhase_ne_fetch k⟩
  · exact ⟨hv.ph, hv.frame.mode.trans h.mode, hv.frame.snapC.trans h.snapC,
      hv.frame.fidx.trans h.fidx⟩

/-- The idle frame is followed by FETCH. -/
theorem PassAt.exists_frame_idle (h : PassAt Ph.latchLo Mode.idle c j s) (hquiet : s.Quiet 98) :
    ∃ t, BusyRun 98 s t ∧ PassAt Ph.fetch Mode.idle c j t := by
  obtain ⟨t, hst, v, hv, hedge⟩ := h.exists_frame hquiet
  exact ⟨t, hst, (hedge _ (.endPass hv.ph (by simp [hv.mode]) (by simp [hv.mode]))).passAt
    ⟨rfl, hv.mode, hv.snapC, hv.fidx⟩⟩

/-- A running frame but the last is followed by the next row's. -/
theorem PassAt.exists_frame_next_row (h : PassAt Ph.latchLo Mode.run c j s) (hj : j ≠ 7)
    (hquiet : s.Quiet 98) :
    ∃ t, BusyRun 98 s t ∧ PassAt Ph.latchLo Mode.run c (j + 1) t := by
  obtain ⟨t, hst, v, hv, hedge⟩ := h.exists_frame hquiet
  exact ⟨t, hst, (hedge _ (.nextRow hv.ph hv.mode (hv.fidx ▸ hj))).passAt
    ⟨rfl, hv.mode, hv.snapC, congrArg (· + 1) hv.fidx⟩⟩

/-- The last running frame is followed by FETCH. -/
theorem PassAt.exists_frame_last_row (h : PassAt Ph.latchLo Mode.run c 7 s)
    (hquiet : s.Quiet 98) :
    ∃ t, BusyRun 98 s t ∧ PassAt Ph.fetch Mode.run c 7 t := by
  obtain ⟨t, hst, v, hv, hedge⟩ := h.exists_frame hquiet
  exact ⟨t, hst, (hedge _ (.lastRow hv.ph hv.mode hv.fidx)).passAt
    ⟨rfl, hv.mode, hv.snapC, hv.fidx⟩⟩

/-- An overtime frame is followed by a dwell from 0. -/
theorem PassAt.exists_frame_over (h : PassAt Ph.latchLo Mode.over c j s) (hquiet : s.Quiet 98) :
    ∃ t, BusyRun 98 s t ∧ PassAt Ph.dwell Mode.over c j t ∧ t.dwellCnt = 0 := by
  obtain ⟨t, hst, v, hv, hedge⟩ := h.exists_frame hquiet
  have hsame := hedge _ (.startDwell hv.ph hv.mode)
  have ⟨_, _, _, _, _, _, hcnt, _⟩ := hsame
  exact ⟨t, hst, hsame.passAt ⟨rfl, hv.mode, hv.snapC, hv.fidx⟩, hcnt⟩

/-! ### One dwell (R216) -/

/-- A DWELL edge below the compare match counts. -/
theorem PassAt.count_dwell {t : State} (h : PassAt Ph.dwell m c j s)
    (hcnt : s.dwellCnt < s.params.dwellCycles - 1) (hst : QuietEdge s t) (hquiet : s.Quiet 1) :
    PassAt Ph.dwell m c j t ∧ t.dwellCnt = s.dwellCnt + 1 := by
  have hsame := hst.sequencer hquiet (.countDwell h.ph (Nat.not_le.mpr hcnt))
  have ⟨_, _, _, _, _, _, hnext, _⟩ := hsame
  exact ⟨hsame.passAt ⟨h.ph, h.mode, h.snapC, h.fidx⟩, hnext⟩

/-- The cycles of a dwell that starts in s. -/
theorem PassAt.exists_dwelling (h : PassAt Ph.dwell m c j s) (hzero : s.dwellCnt = 0)
    (hd : s.params.dwellCycles = d) {k : Nat} (hk : k < d) (hquiet : s.Quiet k) :
    ∃ u, QuietRun k s u ∧ PassAt Ph.dwell m c j u ∧ u.dwellCnt = k := by
  refine exists_quietRun (fun i u => PassAt Ph.dwell m c j u ∧ u.dwellCnt = i) hquiet
    ⟨h, hzero⟩ ?_
  rintro i hi u v hsu huv ⟨hu, rfl⟩
  exact hu.count_dwell (by rw [hsu.params]; omega) huv (hsu.quiet (Quiet_mono hi hquiet))

/-- A dwell's DWELL_CYCLES edges end with that of the compare match. -/
theorem PassAt.exists_dwell (h : PassAt Ph.dwell m c j s) (hzero : s.dwellCnt = 0)
    (hd : s.params.dwellCycles = d) (hpos : 1 ≤ d) (hquiet : s.Quiet d) :
    ∃ t, BusyRun d s t ∧
      ∃ v, PassAt Ph.dwell m c j v ∧ v.dwellCnt ≥ v.params.dwellCycles - 1 ∧
        ∀ q, PhaseEdge v q → SameSequencer t q := by
  have at_cycle (k : Nat) (hk : k < d) :
      ∃ u, QuietRun k s u ∧ PassAt Ph.dwell m c j u ∧ u.dwellCnt = k :=
    h.exists_dwelling hzero hd hk (Quiet_mono hk.le hquiet)
  obtain ⟨n, rfl⟩ := Nat.exists_eq_add_of_le' hpos
  obtain ⟨v, hsv, hv, hcnt⟩ := at_cycle n n.lt_succ_self
  have hvquiet : v.Quiet 1 := hsv.quiet hquiet
  obtain ⟨t, hvt⟩ := exists_quietEdge hvquiet
  refine ⟨t, { toQuietRun := hsv.trans hvt.toQuietRun, busy := fun k hk => ?_ }, v, hv,
    by rw [hsv.params]; omega, fun q => hvt.sequencer hvquiet⟩
  obtain ⟨u, hsu, hu, -⟩ := at_cycle k hk
  exact ⟨u, hsu, by simp [hu.ph]⟩

/-- The dwell after the red frame is followed by the blank frame. -/
theorem PassAt.exists_dwell_red (h : PassAt Ph.dwell m c 0 s) (hzero : s.dwellCnt = 0)
    (hd : s.params.dwellCycles = d) (hpos : 1 ≤ d) (hquiet : s.Quiet d) :
    ∃ t, BusyRun d s t ∧ PassAt Ph.latchLo m c 1 t := by
  obtain ⟨t, hst, v, hv, hcnt, hedge⟩ := h.exists_dwell hzero hd hpos hquiet
  exact ⟨t, hst, (hedge _ (.endRedDwell hv.ph hcnt hv.fidx)).passAt
    ⟨rfl, hv.mode, hv.snapC, rfl⟩⟩

/-- The dwell after the blank frame is followed by FETCH. -/
theorem PassAt.exists_dwell_blank (h : PassAt Ph.dwell m c 1 s) (hzero : s.dwellCnt = 0)
    (hd : s.params.dwellCycles = d) (hpos : 1 ≤ d) (hquiet : s.Quiet d) :
    ∃ t, BusyRun d s t ∧ PassAt Ph.fetch m c 1 t := by
  obtain ⟨t, hst, v, hv, hcnt, hedge⟩ := h.exists_dwell hzero hd hpos hquiet
  exact ⟨t, hst, (hedge _ (.endBlankDwell hv.ph hcnt (by simp [hv.fidx]))).passAt
    ⟨rfl, hv.mode, hv.snapC, hv.fidx⟩⟩

end Stretches

/-! ### The passes (R213 to R215) -/

/-- Settles O49: FETCH and one frame. -/
theorem idlePassTakesNinetyNineCycles : Obligations.IdlePassTakesNinetyNineCycles := by
  intro s hph hidle hquiet
  obtain ⟨t, hst, ht⟩ := exists_fetch_edge hph (Quiet_mono (by omega) hquiet)
  rw [(modeOf_eq_idle_iff s.counter).mpr (by rw [hidle]; rfl)] at ht
  obtain ⟨u, htu, hu⟩ := ht.exists_frame_idle (hst.quiet hquiet)
  exact ⟨⟨t, hst.run_eq, ht.ph, ht.currentFrame⟩, fun k hpos hk => htu.not_fetch_between hst hpos hk,
    u, (hst.trans htu.toQuietRun).run_eq, hu.ph⟩

/-- Frame j of a running pass starts 98 × j edges after its frame 0. -/
theorem PassAt.exists_row {s : State} {c : Byte} (h : PassAt Ph.latchLo Mode.run c 0 s) {j : Nat}
    (hj : j < 8) (hquiet : s.Quiet (98 * j)) :
    ∃ t, BusyRun (98 * j) s t ∧ PassAt Ph.latchLo Mode.run c (BitVec.ofNat 3 j) t := by
  induction j with
  | zero => exact ⟨s, .zero s, h⟩
  | succ j ih =>
    obtain ⟨t, hst, ht⟩ := ih (by omega) (Quiet_mono (by omega) hquiet)
    have hne : BitVec.ofNat 3 j ≠ 7 := by bv_omega
    obtain ⟨u, htu, hu⟩ := ht.exists_frame_next_row hne (hst.quiet hquiet)
    rw [BitVec.ofNat_add]
    exact ⟨u, hst.trans htu, hu⟩

/-- Settles O50: FETCH and eight frames. -/
theorem runningPassSendsEightFrames : Obligations.RunningPassSendsEightFrames := by
  intro s hph hrun hquiet
  obtain ⟨t, hst, ht⟩ := exists_fetch_edge hph (Quiet_mono (by omega) hquiet)
  rw [(modeOf_eq_run_iff s.counter).mpr hrun] at ht
  have htquiet : t.Quiet 784 := hst.quiet hquiet
  obtain ⟨u, htu, hu⟩ := ht.exists_row (j := 7) (by omega) (Quiet_mono (by omega) htquiet)
  obtain ⟨v, huv, hv⟩ := hu.exists_frame_last_row (htu.quiet htquiet)
  have hpass : BusyRun 784 t v := htu.trans huv
  refine ⟨fun j hj => ?_, fun k hpos hk => hpass.not_fetch_between hst hpos hk,
    v, (hst.trans hpass.toQuietRun).run_eq, hv.ph⟩
  obtain ⟨w, htw, hw⟩ := ht.exists_row hj (Quiet_mono (by omega) htquiet)
  have hsw := hst.trans htw.toQuietRun
  exact ⟨w, hsw.run_eq, hw.ph, by rw [hw.currentFrame, hsw.params]⟩

/-- Settles O51: FETCH, the red frame and its dwell, the blank frame and its dwell. -/
theorem overtimePassSendsRedAndBlank : Obligations.OvertimePassSendsRedAndBlank := by
  intro s d hph hlow hhigh hwf hd hquiet
  obtain ⟨-, hpos⟩ := s.params.wf_iff.mp hwf
  rw [← hd] at hpos
  have quiet {n k : Nat} {t : State} (hst : QuietRun n s t) (hk : n + k ≤ 197 + 2 * d) : t.Quiet k :=
    hst.quiet (Quiet_mono hk hquiet)
  have cycles {n : Nat} {t : State} (hst : QuietRun n s t) : t.params.dwellCycles = d := by
    rw [hst.params, hd]
  -- The stretches t to u, u to v, v to w and w to x, each with the run from s to its end.
  obtain ⟨t, hst, ht⟩ := exists_fetch_edge hph (Quiet_mono (by omega) hquiet)
  rw [(modeOf_eq_over_iff s.counter).mpr ⟨hlow, hhigh⟩] at ht
  obtain ⟨u, htu, hu, hured⟩ := ht.exists_frame_over (quiet hst (by omega))
  have hsu := hst.trans htu.toQuietRun
  obtain ⟨v, huv, hv⟩ := hu.exists_dwell_red hured (cycles hsu) hpos (quiet hsu (by omega))
  have hsv := hsu.trans huv.toQuietRun
  obtain ⟨w, hvw, hw, hwblank⟩ := hv.exists_frame_over (quiet hsv (by omega))
  have hsw := hsv.trans hvw.toQuietRun
  obtain ⟨x, hwx, hx⟩ := hw.exists_dwell_blank hwblank (cycles hsw) hpos (quiet hsw (by omega))
  have hpass := ((htu.trans huv).trans hvw).trans hwx
  have hblank : 1 + 98 + d + 98 = 197 + d := by omega
  have hend : 1 + (98 + d + 98 + d) = 197 + 2 * d := by omega
  refine ⟨⟨t, hst.run_eq, ht.ph, ht.currentFrame⟩, fun k hk => ?_,
    ⟨v, hsv.run_eq, hv.ph, hv.currentFrame⟩, fun k hk => ?_,
    fun k hk0 hk => hpass.not_fetch_between hst hk0 (hend ▸ hk),
    x, hend ▸ (hst.trans hpass.toQuietRun).run_eq, hx.ph⟩
  · obtain ⟨y, huy, hy, hcnt⟩ := hu.exists_dwelling hured (cycles hsu) hk (quiet hsu (by omega))
    exact ⟨y, (hsu.trans huy).run_eq, hy.ph, hcnt⟩
  · obtain ⟨y, hwy, hy, hcnt⟩ := hw.exists_dwelling hwblank (cycles hsw) hk (quiet hsw (by omega))
    exact ⟨y, hblank ▸ (hsw.trans hwy).run_eq, hy.ph, hcnt⟩

end Sys2Proof.Machine

/-!
Reset and hazards (spec/70_reset_and_hazards.md): what a reset edge leaves and what the chain sees of
it, the refusal of a floating button, the edges left to the next FETCH, and the first commit after
reset.
-/

namespace Sys2Proof.Machine

/-! ### Reset (R270, R273) -/

/-- Settles O27: `resetRegisters` writes the reset value of each of the sixteen registers. -/
theorem resetLoadsEveryRegister : Obligations.ResetLoadsEveryRegister :=
  fun _ => rfl

/-- What a run of at least one reset edge and nothing else leaves: the reset values, with the
environment n edges further on. -/
def State.heldReset (s : State) (n : Nat) : State :=
  { State.resetWith s.params with frame := s.frame, stim := s.stim.drop n, edge := s.edge + n }

theorem step_eq_heldReset {s : State} (h : s.input.rst = true) : step s = .next (s.heldReset 1) := by
  rw [step_of_reset h, State.heldReset, List.drop_one]
  rfl

/-- One more reset edge loads the values that are already there. -/
theorem heldReset_heldReset (s : State) (m n : Nat) :
    (s.heldReset m).heldReset n = s.heldReset (m + n) := by
  simp [State.heldReset, Nat.add_assoc]

theorem heldReset_inputAt (s : State) (n k : Nat) :
    (s.heldReset n).inputAt k = s.inputAt (n + k) := by
  simp [State.heldReset, State.inputAt]

/-- Settles O29, by induction on the number of edges after the first. -/
theorem heldResetIsOneReset : Obligations.HeldResetIsOneReset := by
  intro n
  induction n with
  | zero =>
    intro s h
    rw [run_succ, step_eq_heldReset (h 0 Nat.one_pos)]
    rfl
  | succ n ih =>
    intro s h
    have hrest : run (n + 1) (s.heldReset 1) = .next ((s.heldReset 1).heldReset (n + 1)) :=
      ih _ fun k hk => by rw [heldReset_inputAt]; exact h _ (by omega)
    rw [run_succ, step_eq_heldReset (h 0 (by omega)), andThen_of_next, hrest, heldReset_heldReset,
      Nat.add_comm 1]
    rfl

/-- An edge after which both `sclk` and `latch` are low moves nothing in the chain (R189). -/
theorem chainEdge_of_lines_low {s t : State} (c : Chain) (hsclk : t.sclk = false)
    (hlatch : t.latch = false) : chainEdge s t c = c := by
  simp [chainEdge, hsclk, hlatch]

/-- Settles O30: the reset values of `sclk` and `latch` are low. -/
theorem resetCommitsNothing : Obligations.ResetCommitsNothing := by
  intro s t c hrst h
  cases (step_of_reset hrst).symm.trans h
  exact chainEdge_of_lines_low c rfl rfl

/-! ### A floating button (R274) -/

/-- Settles O13: each of the six is a control edge, which samples `btn`. -/
theorem controlOperationsRefuseFloatingButton :
    Obligations.ControlOperationsRefuseFloatingButton := by
  intro s l hbtn
  have refuses (c : Byte) (r : Bool) (n : Nat) : controlEdge s c r n = .refused .floatingButton :=
    controlEdge_of_floating ((sampleBtn_eq_none_iff s).mpr hbtn) c r n
  exact ⟨refuses _ _ _, refuses _ _ _, refuses _ _ _, refuses _ _ _, refuses _ _ _, refuses _ _ _⟩

/-! ### The edges left to the next FETCH (R221, R278) -/

/-- The edges of a pass after a dwell in frame j: the blank frame and its dwell after the red one, and
none after the blank one (R215). -/
def edgesAfterDwell (p : Params) (j : BitVec 3) : Nat := if j = 0 then 98 + p.dwellCycles else 0

/-- The edges of a pass of mode m after its frame j: the rows that follow, or the dwell and what comes
after it (R213 to R215). -/
def edgesAfterFrame (p : Params) (m : BitVec 2) (j : BitVec 3) : Nat :=
  if m = Mode.run then 98 * (7 - j.toNat)
  else if m = Mode.over then p.dwellCycles + edgesAfterDwell p j
  else 0

/-- The edges before the state that is in FETCH, by phase code: what is left of the frame (R188) or of
the dwell (R216), and what follows it in the pass. A dwell lasts at least the edge that ends it. -/
def State.edgesToFetch (s : State) : Nat :=
  match s.ph.toNat with
  | 0 => 0
  | 1 => 98 + edgesAfterFrame s.params s.mode s.fidx
  | 2 => 97 - 3 * s.bitIdx.toNat + edgesAfterFrame s.params s.mode s.fidx
  | 3 => 96 - 3 * s.bitIdx.toNat + edgesAfterFrame s.params s.mode s.fidx
  | 4 => 95 - 3 * s.bitIdx.toNat + edgesAfterFrame s.params s.mode s.fidx
  | 5 => 1 + edgesAfterFrame s.params s.mode s.fidx
  | 6 => max 1 (s.params.dwellCycles - s.dwellCnt) + edgesAfterDwell s.params s.fidx
  | _ => 1

@[simp] theorem edgesAfterDwell_red (p : Params) : edgesAfterDwell p 0#3 = 98 + p.dwellCycles := rfl

theorem edgesAfterDwell_blank (p : Params) {j : BitVec 3} (hj : j ≠ 0) : edgesAfterDwell p j = 0 :=
  if_neg hj

@[simp] theorem edgesAfterFrame_run (p : Params) (j : BitVec 3) :
    edgesAfterFrame p 1#2 j = 98 * (7 - j.toNat) := rfl

@[simp] theorem edgesAfterFrame_over (p : Params) (j : BitVec 3) :
    edgesAfterFrame p 2#2 j = p.dwellCycles + edgesAfterDwell p j := rfl

theorem edgesAfterFrame_of_one_frame (p : Params) {m : BitVec 2} (j : BitVec 3) (hrun : m ≠ Mode.run)
    (hover : m ≠ Mode.over) : edgesAfterFrame p m j = 0 :=
  (if_neg hrun).trans (if_neg hover)

theorem edgesAfterDwell_le (p : Params) (j : BitVec 3) : edgesAfterDwell p j ≤ 98 + p.dwellCycles := by
  unfold edgesAfterDwell
  split <;> omega

/-- FETCH and the first frame are 99 edges of the pass (R221). -/
theorem edgesAfterFrame_le_passLength (p : Params) (m : BitVec 2) (j : BitVec 3) :
    edgesAfterFrame p m j + 99 ≤ passLength p m := by
  have hdwell := edgesAfterDwell_le p j
  unfold edgesAfterFrame passLength
  split_ifs <;> omega

/-- Only FETCH is no edge away from FETCH. -/
theorem edgesToFetch_eq_zero_iff (s : State) : s.edgesToFetch = 0 ↔ s.ph = Ph.fetch := by
  have hbits := s.bitIdx.isLt
  rw [← BitVec.toNat_inj]
  unfold State.edgesToFetch
  split <;> simp <;> omega

theorem SameSequencer.edgesToFetch {s t : State} (h : SameSequencer s t) :
    s.edgesToFetch = t.edgesToFetch := by
  obtain ⟨hph, hmode, -, -, hfidx, hbit, hcnt, -, -, -, hparams⟩ := h
  rw [State.edgesToFetch, State.edgesToFetch, hph, hmode, hfidx, hbit, hcnt, hparams]

/-- Only an overtime pass dwells: the clause of the sequencer's invariant that the rest of a pass
needs. Unlike the whole invariant, every phase edge keeps it whatever DisplayState is. -/
def State.DwellsInOvertime (s : State) : Prop := s.ph = Ph.dwell → s.mode = Mode.over

theorem SequencerInv_dwellsInOvertime {s : State} (h : s.SequencerInv) : s.DwellsInOvertime := by
  obtain ⟨-, -, -, -, -, -, hdwell⟩ := h
  exact hdwell

theorem PhaseEdge.dwellsInOvertime {s q : State} (h : PhaseEdge s q) (hs : s.DwellsInOvertime) :
    q.DwellsInOvertime := by
  cases h with
  | startDwell _ hmode => exact fun _ => hmode
  | countDwell => exact hs
  | fetch | latchLo | data | clkHi | lastBit | nextBit | lastRow | nextRow | endPass |
    endRedDwell | endBlankDwell | reserved => simp [State.DwellsInOvertime]

theorem SameSequencer.dwellsInOvertime {s t : State} (h : SameSequencer s t)
    (ht : t.DwellsInOvertime) : s.DwellsInOvertime := by
  obtain ⟨hph, hmode, -⟩ := h
  rw [State.DwellsInOvertime, hph, hmode]
  exact ht

/-- Every phase edge but FETCH's brings FETCH one edge nearer. -/
theorem PhaseEdge.edgesToFetch {s q : State} (h : PhaseEdge s q) (hs : s.DwellsInOvertime)
    (hpos : 1 ≤ s.params.dwellCycles) (hfetch : s.ph ≠ Ph.fetch) :
    q.edgesToFetch + 1 = s.edgesToFetch := by
  have hbits := s.bitIdx.isLt
  cases h with
  | fetch hph => exact absurd hph hfetch
  | latchLo hph | data hph | clkHi hph =>
    simp [State.edgesToFetch, hph]
    omega
  | lastBit hph hbit =>
    simp [State.edgesToFetch, hph, hbit]
    omega
  | nextBit hph hbit =>
    have hnext : (s.bitIdx + 1#5).toNat = s.bitIdx.toNat + 1 := by bv_omega
    simp [State.edgesToFetch, hph, hnext, -BitVec.toNat_add]
    omega
  | lastRow hph hmode hfidx => simp [State.edgesToFetch, hph, hmode, hfidx]
  | nextRow hph hmode hfidx =>
    have hnext : 7 - s.fidx.toNat = 7 - (s.fidx + 1).toNat + 1 := by bv_omega
    simp [State.edgesToFetch, hph, hmode]
    omega
  | startDwell hph hmode =>
    simp [State.edgesToFetch, hph, hmode]
    omega
  | endPass hph hrun hover =>
    simp [State.edgesToFetch, hph, edgesAfterFrame_of_one_frame _ _ hrun hover]
  | endRedDwell hph hcnt hfidx =>
    simp [State.edgesToFetch, hph, hs hph, hfidx, edgesAfterDwell_blank]
    omega
  | endBlankDwell hph hcnt hfidx =>
    simp [State.edgesToFetch, hph, edgesAfterDwell_blank _ hfidx]
    omega
  | countDwell hph hcnt =>
    simp [State.edgesToFetch, hph]
    omega
  | reserved hph => simp [State.edgesToFetch, hph]

/-- Outside a dwell, no more is left than a whole frame and what follows it. -/
theorem edgesToFetch_le_of_not_dwell {s : State} (h : s.ph ≠ Ph.dwell) :
    s.edgesToFetch ≤ 98 + edgesAfterFrame s.params s.mode s.fidx := by
  have hcode : s.ph.toNat ≠ 6 := by bv_omega
  unfold State.edgesToFetch
  split <;> omega

/-- In a dwell, no more is left than a whole dwell and what follows it. -/
theorem edgesToFetch_le_of_dwell {s : State} (h : s.ph = Ph.dwell) (hpos : 1 ≤ s.params.dwellCycles) :
    s.edgesToFetch ≤ s.params.dwellCycles + edgesAfterDwell s.params s.fidx := by
  simp [State.edgesToFetch, h, hpos]

/-- The next FETCH is nearer than the pass is long: its own edge is one of the pass. -/
theorem edgesToFetch_lt_passLength {s : State} (hs : s.DwellsInOvertime)
    (hpos : 1 ≤ s.params.dwellCycles) : s.edgesToFetch < passLength s.params s.mode := by
  have hframe := edgesAfterFrame_le_passLength s.params s.mode s.fidx
  by_cases hph : s.ph = Ph.dwell
  · have hleft := edgesToFetch_le_of_dwell hph hpos
    simp [hs hph] at hframe ⊢
    omega
  · have hleft := edgesToFetch_le_of_not_dwell hph
    omega

/-- The run to the next FETCH: each of its edges starts outside FETCH, and takes one off. -/
theorem exists_quietRun_to_fetch {s : State} (hs : s.DwellsInOvertime)
    (hpos : 1 ≤ s.params.dwellCycles) (hquiet : s.Quiet s.edgesToFetch) :
    ∃ t, QuietRun s.edgesToFetch s t ∧ t.ph = Ph.fetch := by
  obtain ⟨t, hst, -, ht⟩ := exists_quietRun
    (fun k u => u.DwellsInOvertime ∧ u.edgesToFetch + k = s.edgesToFetch) hquiet ⟨hs, rfl⟩ <| by
      rintro k hk u v hsu huv ⟨hu, hleft⟩
      have hfetch : u.ph ≠ Ph.fetch := mt (edgesToFetch_eq_zero_iff u).mpr (by omega)
      have hedge := phaseEdge_wholeSequencerStep u
      have hsame := huv.sequencer (hsu.quiet (Quiet_mono hk hquiet)) hedge
      have hnext := hedge.edgesToFetch hu (hsu.params ▸ hpos) hfetch
      exact ⟨hsame.dwellsInOvertime (hedge.dwellsInOvertime hu), by rw [hsame.edgesToFetch]; omega⟩
  exact ⟨t, hst, (edgesToFetch_eq_zero_iff t).mp (by omega)⟩

/-- Settles O53: FETCH is `edgesToFetch` edges away, which is less than the pass is long. -/
theorem fetchComesWithinOnePass : Obligations.FetchComesWithinOnePass := by
  intro s hinv hquiet hwf
  obtain ⟨-, hpos⟩ := s.params.wf_iff.mp hwf
  have hs := SequencerInv_dwellsInOvertime hinv
  have hlen := edgesToFetch_lt_passLength hs hpos
  obtain ⟨t, hst, ht⟩ := exists_quietRun_to_fetch hs hpos (Quiet_mono (by omega) hquiet)
  exact ⟨_, t, hlen, hst.run_eq, ht⟩

/-! ### The first commit after reset (R272) -/

/-- The chain watches a run and does not steer it. -/
theorem run_of_runWithChain {n : Nat} {s t : State} {c d : Chain}
    (h : runWithChain n s c = .next (t, d)) : run n s = .next t := by
  induction n generalizing s c with
  | zero => cases h; rfl
  | succ n ih =>
    rw [runWithChain] at h
    rw [run_succ]
    cases hs : step s with
    | next u => rw [hs] at h; exact ih h
    | fault e => simp [hs] at h
    | refused e => simp [hs] at h

/-- The first edge after reset is FETCH: the idle frame begins, and the lines stay low. -/
theorem exists_fetch_edge_of_reset {p : Params} {stim : List InputVector} {s : State}
    (hs : s = { State.resetWith p with stim := stim }) (hquiet : s.Quiet 1) :
    ∃ t, QuietEdge s t ∧ t.ph = Ph.latchLo ∧ t.sclk = false ∧ t.latch = false ∧
      t.currentFrame = frameIdle := by
  subst hs
  obtain ⟨t, hst⟩ := exists_quietEdge hquiet
  have hsame := hst.sequencer hquiet (.fetch rfl)
  have ⟨hph, _, _, _, _, _, _, _, hsclk, hlatch, _⟩ := hsame
  exact ⟨t, hst, hph, hsclk, hlatch, hsame.sameFrame.currentFrame⟩

/-- `bitrev32(0x00FFFFFF)` (95_test_vectors.md section 4). -/
theorem bitrev32_frameIdle_wire : bitrev32 frameIdle.wire = 0xFFFFFF00 := by
  refine BitVec.eq_of_getLsbD_eq fun i hi => ?_
  rw [bitrev32, BitVec.getLsbD_reverse]
  revert i
  decide

/-- Settles O54: the chain sits out the edge of FETCH, and then watches the 98 edges of the idle
frame. -/
theorem firstCommitAfterResetIsIdleFrame : Obligations.FirstCommitAfterResetIsIdleFrame := by
  intro p s q stim hs hquiet
  obtain ⟨t, hst, hph, hsclk, hlatch, hframe⟩ :=
    exists_fetch_edge_of_reset hs (Quiet_mono (by omega) hquiet)
  have hquiet' : t.Quiet 98 := hst.quiet hquiet
  have watch (n : Nat) (c : Chain) : runWithChain (n + 1) s c = runWithChain n t c := by
    simp [runWithChain, hst.step_eq, chainEdge_of_lines_low c hsclk hlatch]
  constructor
  · intro k hk
    match k with
    | 0 => exact ⟨s, q, rfl⟩
    | k + 1 =>
      obtain ⟨u, ⟨q', out⟩, -, -, hrun, -, hout⟩ := exists_chainAt { q := q, out := none } hph hsclk
        (show k ≤ 97 by omega) (Quiet_mono (by omega) hquiet')
      cases hout
      exact ⟨u, q', (watch k _).trans hrun⟩
  · obtain ⟨u, hu⟩ := chainCommitsTheFrame t { q := q, out := none } hph hsclk hquiet'
    obtain ⟨-, -, -, v, hv, hcommit, -⟩ := frameTakesNinetyEightCycles t hph hquiet'
    cases (run_of_runWithChain hu).symm.trans hv
    rw [hframe, bitrev32_frameIdle_wire] at hu
    exact ⟨u, (watch 98 _).trans hu, hcommit⟩

end Sys2Proof.Machine
